-- ==== Sys2Proof/Word.lean ====
section
/-! DEFINITION. The widths of the values the CORE moves (00_scope.md R8, R10). Every value is unsigned. -/

namespace Sys2Proof

/-- One byte of a frame, a response or a stream. -/
abbrev Byte := BitVec 8

/-- The 16-bit length field of a frame and the 16-bit byte count of a command (`LEN_W`, R8). -/
abbrev Len := BitVec 16

/-- A flash address or a CRC value (`ADDR_W` and `CRC_W`, R8). -/
abbrev Word := BitVec 32

/-- A chunk length, buffer index or payload count: 9 bits, 0 to 256 when legal (R35, R36, R40). -/
abbrev Count := BitVec 9

end Sys2Proof
end

