-- ==== Sys2Proof/Syntax.lean ====
section
/-! DEFINITION. The instructions of the CORE: the nine command frames of 30_encoding.md R85. -/

namespace Sys2Proof

/-- One command frame, one constructor per row of spec/opcode_table.json (R85, formats R81).
`addr` is the 32-bit flash address field, `len` the 16-bit length field, `data` the raw bytes of
format F2. A caller supplies only the command and, for READ and VERIFY, the length (R21, R95): the
address is the sequencer's and the data are the source's (R65, R190, R250; log entry 1). -/
inductive Instr where
  /-- query-firmware, opcode `'!'`, format F0 (R221). -/
  | fwver
  /-- halt, opcode `'h'`, format F0 (R222). -/
  | halt
  /-- start, opcode `'g'`, format F0 (R223). -/
  | start
  /-- cdone-status, opcode `'c'`, format F0 (R224). -/
  | cdone
  /-- erase, opcode `'e'`, format F0 (R225). -/
  | erase
  /-- read-chip-serial, opcode `'s'`, format F0 (R226). -/
  | serial
  /-- read-flash, opcode `'r'`, format F1 (R240). -/
  | read (addr : Word) (len : Len)
  /-- write-flash, opcode `'w'`, format F2 (R251). -/
  | write (addr : Word) (len : Len) (data : List Byte)
  /-- verify-crc, opcode `'t'`, format F1 (R260). -/
  | verify (addr : Word) (len : Len)
  deriving DecidableEq, Repr

end Sys2Proof
end

