-- ==== Sys2Proof/WellFormed.lean ====
section
/-! DEFINITION. Which instruction terms are frames of the protocol, and which of those the CORE itself sends. -/

namespace Sys2Proof

/-- A write-flash frame carries exactly as many data bytes as its length field says (30_encoding.md R81). -/
def Instr.wellFormed : Instr → Bool
  | .fwver => true
  | .halt => true
  | .start => true
  | .cdone => true
  | .erase => true
  | .serial => true
  | .read _ _ => true
  | .write _ len data => data.length == len.toNat
  | .verify _ _ => true

/-- The frames the CORE can send: a read-flash or write-flash chunk has 1 to 256 bytes (20_memory.md R66) at
an address that is a multiple of 256 (R65), and verify-crc always names address 0 (R65, R260). -/
def Instr.sendable : Instr → Bool
  | .fwver => true
  | .halt => true
  | .start => true
  | .cdone => true
  | .erase => true
  | .serial => true
  | .read addr len => addr.toNat % 256 == 0 && decide (1 ≤ len.toNat) && decide (len.toNat ≤ 256)
  | .write addr len data =>
      addr.toNat % 256 == 0 && decide (1 ≤ len.toNat) && decide (len.toNat ≤ 256) && data.length == len.toNat
  | .verify addr _ => addr == 0

/-- The instructions a caller can offer on the command interface, which has no address and no data input
(10_state.md R21, 20_memory.md R65): address 0, and for write-flash neither length nor data (R95, R251). -/
def Instr.offerable : Instr → Bool
  | .fwver => true
  | .halt => true
  | .start => true
  | .cdone => true
  | .erase => true
  | .serial => true
  | .read addr _ => addr == 0
  | .write addr len data => addr == 0 && len == 0 && data == []
  | .verify addr _ => addr == 0

end Sys2Proof
end

