-- ==== Sys2Proof/Decode.lean ====
section
/-! DEFINITION. The opcode map, the byte order of the fields, the decoder of a frame and, after it, the encoder
(30_encoding.md R80 to R95, 40_frame_encoder.md R110). -/

namespace Sys2Proof

/-- The nine commands by name, in the order of the source's enumerated set (30_encoding.md R85, R95). -/
inductive Command where
  | fwver
  | halt
  | start
  | cdone
  | erase
  | serial
  | read
  | write
  | verify
  deriving DecidableEq, Repr

/-- The three frame formats of R81: opcode only; opcode, address, length; the same and data. -/
inductive Format where
  | f0
  | f1
  | f2
  deriving DecidableEq, Repr

/-- Every command once, in the order of R95. -/
def Command.all : List Command :=
  [.fwver, .halt, .start, .cdone, .erase, .serial, .read, .write, .verify]

/-- `OPC(op)`: the opcode byte of a command, the ASCII code of its character (R84, R85). -/
def Command.opcode : Command → Byte
  | .fwver => 0x21#8
  | .halt => 0x68#8
  | .start => 0x67#8
  | .cdone => 0x63#8
  | .erase => 0x65#8
  | .serial => 0x73#8
  | .read => 0x72#8
  | .write => 0x77#8
  | .verify => 0x74#8

/-- The frame format of a command (R85). -/
def Command.format : Command → Format
  | .fwver => .f0
  | .halt => .f0
  | .start => .f0
  | .cdone => .f0
  | .erase => .f0
  | .serial => .f0
  | .read => .f1
  | .write => .f2
  | .verify => .f1

/-- The value of `cmd_op` that selects a command (R95). -/
def Command.select : Command → BitVec 4
  | .fwver => 0#4
  | .halt => 1#4
  | .start => 2#4
  | .cdone => 3#4
  | .erase => 4#4
  | .serial => 5#4
  | .read => 6#4
  | .write => 7#4
  | .verify => 8#4

/-- The command a `cmd_op` value selects; none for the reserved values 9 to 15 (R95, R96). -/
def Command.ofSelect (v : BitVec 4) : Option Command :=
  Command.all.find? fun c => c.select == v

/-- The command whose opcode byte this is; none for the 247 other byte values (R92). -/
def Command.ofOpcode (b : Byte) : Option Command :=
  Command.all.find? fun c => c.opcode == b

/-- The command an instruction belongs to (R85). -/
def Instr.command : Instr → Command
  | .fwver => .fwver
  | .halt => .halt
  | .start => .start
  | .cdone => .cdone
  | .erase => .erase
  | .serial => .serial
  | .read _ _ => .read
  | .write _ _ _ => .write
  | .verify _ _ => .verify

/-- Byte `k` of a value, byte 0 the least significant one (R11). -/
def byteOf {w : Nat} (v : BitVec w) (k : Nat) : Byte :=
  v.extractLsb' (8 * k) 8

/-- The four address bytes, most significant first (R86). -/
def addressBytes (a : Word) : List Byte :=
  [byteOf a 3, byteOf a 2, byteOf a 1, byteOf a 0]

/-- The two length bytes, most significant first (R87). -/
def lengthBytes (l : Len) : List Byte :=
  [byteOf l 1, byteOf l 0]

/-- `b3 ++ b2 ++ b1 ++ b0` with `b3` most significant: an address field (R86) or a CRC digest (R88). -/
def join32 (b3 b2 b1 b0 : Byte) : Word :=
  b3 ++ b2 ++ b1 ++ b0

/-- `b1 ++ b0` with `b1` most significant: a length field (R87). -/
def join16 (b1 b0 : Byte) : Len :=
  b1 ++ b0

/-- Why a byte sequence is no frame. -/
inductive DecodeError where
  /-- There is no opcode byte. -/
  | noBytes
  /-- The first byte is none of the nine opcodes: reserved from the CORE's point of view (R92). -/
  | reservedOpcode (b : Byte)
  /-- A format F1 or F2 frame ends inside its address or length field (R81). -/
  | shortHeader
  /-- A write-flash frame has fewer data bytes than its length field says (R81). -/
  | shortData
  deriving DecidableEq, Repr

/-- The address and length fields of a format F1 or F2 frame, and the bytes after them (R81, R82). -/
def decodeHeader : List Byte → Option (Word × Len × List Byte)
  | a3 :: a2 :: a1 :: a0 :: l1 :: l0 :: rest => some (join32 a3 a2 a1 a0, join16 l1 l0, rest)
  | _ => none

/-- The fields of a frame after its opcode byte, by command (R81, R85, R90). -/
def decodeFields (c : Command) (bs : List Byte) : Except DecodeError (Instr × List Byte) :=
  match c with
  | .fwver => .ok (.fwver, bs)
  | .halt => .ok (.halt, bs)
  | .start => .ok (.start, bs)
  | .cdone => .ok (.cdone, bs)
  | .erase => .ok (.erase, bs)
  | .serial => .ok (.serial, bs)
  | .read =>
      match decodeHeader bs with
      | some (a, l, rest) => .ok (.read a l, rest)
      | none => .error .shortHeader
  | .write =>
      match decodeHeader bs with
      | some (a, l, rest) =>
          if l.toNat ≤ rest.length then .ok (.write a l (rest.take l.toNat), rest.drop l.toNat)
          else .error .shortData
      | none => .error .shortHeader
  | .verify =>
      match decodeHeader bs with
      | some (a, l, rest) => .ok (.verify a l, rest)
      | none => .error .shortHeader

/-- The frame at the head of a byte sequence and the bytes after it: the opcode fixes the length, and for
write-flash the length field (R90). Total; every rejection has a name. -/
def decode : List Byte → Except DecodeError (Instr × List Byte)
  | [] => .error .noBytes
  | b :: bs =>
      match Command.ofOpcode b with
      | some c => decodeFields c bs
      | none => .error (.reservedOpcode b)

/-- `encode(opc, a?, l?, d?)`: the bytes of a frame, first byte first (40_frame_encoder.md R110, R111). -/
def encode : Instr → List Byte
  | .fwver => [Command.opcode .fwver]
  | .halt => [Command.opcode .halt]
  | .start => [Command.opcode .start]
  | .cdone => [Command.opcode .cdone]
  | .erase => [Command.opcode .erase]
  | .serial => [Command.opcode .serial]
  | .read a l => Command.opcode .read :: (addressBytes a ++ lengthBytes l)
  | .write a l d => Command.opcode .write :: (addressBytes a ++ lengthBytes l ++ d)
  | .verify a l => Command.opcode .verify :: (addressBytes a ++ lengthBytes l)

/-- The length of a frame in bytes (R90). -/
def Instr.frameLength : Instr → Nat
  | .fwver => 1
  | .halt => 1
  | .start => 1
  | .cdone => 1
  | .erase => 1
  | .serial => 1
  | .read _ _ => 7
  | .write _ l _ => 7 + l.toNat
  | .verify _ _ => 7

/-- The first `n` bytes of a word numbered from its first byte up: byte `k` of the frame is bits `8k+7` to `8k`
(log entry 19). -/
def wordBytes (w : Nat) : Nat → List Byte
  | 0 => []
  | n + 1 => BitVec.ofNat 8 w :: wordBytes (w / 256) n

/-- How many data bytes follow the header of a frame laid out in a word: for write-flash its length field, frame
bytes 5 and 6 with the most significant first; for the other commands none (R90). -/
def wordDataLength (w : Nat) : Nat :=
  if BitVec.ofNat 8 w = Command.opcode .write then (w / 2 ^ 40 % 256) * 256 + w / 2 ^ 48 % 256 else 0

/-- The instruction the decoder reads from the frame whose bits are `w`, first byte in bits 7 to 0 (the numbering of
the table's `match`, `mask` and `fixed` entries, log entry 19); bits from `nbits` up are 0. -/
def decodeTableWord (nbits w : Nat) : Option Instr :=
  let bits := w % 2 ^ nbits
  match decode (wordBytes bits (7 + wordDataLength bits)) with
  | .ok (i, _) => some i
  | .error _ => none

/-- `H = f0 ++ f1 ++ f2 ++ f3 ++ f4 ++ f5 ++ f6`: the bit view of a format F1 or F2 frame's first seven bytes, `f0` most
significant (R82); none for a shorter frame. -/
def headerView : List Byte → Option (BitVec 56)
  | f0 :: f1 :: f2 :: f3 :: f4 :: f5 :: f6 :: _ => some (f0 ++ f1 ++ f2 ++ f3 ++ f4 ++ f5 ++ f6)
  | _ => none

/-- `H[55:48]`: the opcode (R82). -/
def viewOpcode (h : BitVec 56) : Byte :=
  h.extractLsb' 48 8

/-- `H[47:16]`: the 32-bit address (R82). -/
def viewAddress (h : BitVec 56) : Word :=
  h.extractLsb' 16 32

/-- `H[15:0]`: the 16-bit length (R82). -/
def viewLength (h : BitVec 56) : Len :=
  h.extractLsb' 0 16

/-- The seven header bytes of a bit view, `f0` first (R82). -/
def viewBytes (h : BitVec 56) : List Byte :=
  viewOpcode h :: (addressBytes (viewAddress h) ++ lengthBytes (viewLength h))

/-- A frame as one number in the bit view of R82, its first byte most significant. -/
def encodingWord (frame : List Byte) : Nat :=
  frame.foldl (fun w b => w * 256 + b.toNat) 0

/-- The bytes of an `nbits`-bit word in the bit view of R82, first byte most significant: the words the `encoding`
strings of spec/opcode_table.json write. -/
def encodingBytes (nbits w : Nat) : List Byte :=
  (wordBytes w (nbits / 8)).reverse

/-- The instruction whose frame is the `nbits`-bit word `w` in the bit view of R82: 8 bits for format F0, 56 for F1,
and 56 and the data bits for F2. `decodeTableWord` reads the same frame numbered from its first byte up
(log entry 19). -/
def decodeEncodingWord (nbits w : Nat) : Option Instr :=
  match decode (encodingBytes nbits w) with
  | .ok (i, []) => some i
  | .ok (_, _ :: _) => none
  | .error _ => none

end Sys2Proof
end

