-- ==== Sys2Proof/Config.lean ====
section
/-! DEFINITION. The ports the environment drives, and the free values: what an implementation or the environment
fixes and the spec leaves open (00_scope.md R9, 42_round_trip_controller.md R164). -/

namespace Sys2Proof

/-- The inputs of one clock cycle (10_state.md R20, R21, R23 to R26). -/
structure Inputs where
  /-- Synchronous reset, active high (R20). -/
  rst : Bool := false
  /-- The caller offers a command (R21). -/
  cmdValid : Bool := false
  /-- Operation select (R21, R95). -/
  cmdOp : BitVec 4 := 0#4
  /-- Byte count for READ and VERIFY (R21). -/
  cmdCount : Len := 0#16
  /-- The adapter takes the frame byte (R23). -/
  txReady : Bool := false
  /-- The adapter offers a received byte (R23). -/
  rxValid : Bool := false
  /-- That byte (R23). -/
  rxData : Byte := 0#8
  /-- Transport failure (R23). -/
  chErr : Bool := false
  /-- The source offers a token (R24). -/
  srcValid : Bool := false
  /-- The token is end-of-input (R24). -/
  srcEoi : Bool := false
  /-- The data byte of a data token (R24). -/
  srcData : Byte := 0#8
  /-- Local I/O failure on the source (R24). -/
  srcErr : Bool := false
  /-- The sink takes the offered byte (R25). -/
  snkReady : Bool := false
  /-- Local I/O failure on the sink (R25). -/
  snkErr : Bool := false
  /-- The caller takes the offered payload byte (R26). -/
  resReady : Bool := false
  deriving DecidableEq, Repr, Inhabited

/-- The free value of the inputs in a cycle that no script of the state gives: "Every input is free in every
cycle" (R164). It has no body, so nothing can be proved of it (log entry 3). -/
opaque Config.freeInputs : Nat → Inputs

/-- How far `SETTLE_CYCLES` exceeds its least value 1: OPEN in the spec, so it has no body (R9, D21; log entry 4). -/
opaque Config.settleSlack : Nat

/-- `SETTLE_CYCLES` of the implementation: a natural number, at least 1 (R9, D21; log entry 4). -/
def Config.settleCycles : Nat :=
  Config.settleSlack + 1

end Sys2Proof
end

