-- ==== Sys2Proof/Machine/State.lean ====
section
/-! DEFINITION. The architectural state of the CORE (10_state.md R30 to R48), the reasons a step can stop, and the
state right after reset (70_reset_and_hazards.md R300). -/

namespace Sys2Proof.Machine

/-- The controller states of R30. The unused values 11 to 15 are excluded by this type, as R54 allows. -/
inductive Ctrl where
  /-- Waiting for a command after reset (R162). -/
  | idle
  /-- An operation has ended; waiting for a command (R161). -/
  | done
  /-- Sending the opcode byte (R113). -/
  | txOp
  /-- Sending the six address and length bytes (R114). -/
  | txHdr
  /-- Sending a write chunk's data bytes (R115). -/
  | txData
  /-- The settle delay after a write-flash frame (R156). -/
  | settle
  /-- Receiving the length byte (R131). -/
  | rxLen
  /-- Receiving the payload bytes (R134). -/
  | rxPay
  /-- The command's check (R157). -/
  | check
  /-- Filling the chunk buffer (R250). -/
  | fill
  /-- Running the CRC over the local image (R204). -/
  | crcRun
  deriving DecidableEq, Repr

/-- The outcome codes of R271. The reserved code 7 is excluded by this type: no rule produces it. -/
inductive ErrKind where
  /-- Success, code 0. -/
  | none
  /-- Transport failure, code 1 (R272). -/
  | transport
  /-- Protocol violation, code 2 (R273). -/
  | protocol
  /-- Verification mismatch, code 3 (R274). -/
  | mismatch
  /-- Local I/O failure, code 4 (R275). -/
  | localIo
  /-- A WRITE past the 32-bit address space, code 5 (R277). -/
  | addrOverflow
  /-- A reserved `cmd_op`, code 6 (R278). -/
  | badOp
  deriving DecidableEq, Repr

/-- One transfer on an interface: exactly one byte or token moves on each fire (00_scope.md R14, R15). -/
inductive Transfer where
  /-- `cmd.fire`: an accepted command with its `cmd_op` and `cmd_count` (R21). -/
  | cmd (op : BitVec 4) (count : Len)
  /-- `Send(b)`: a frame byte to the device. -/
  | tx (b : Byte)
  /-- `Recv()`: a byte from the device. -/
  | rx (b : Byte)
  /-- `SrcRead()` of a data byte. -/
  | src (b : Byte)
  /-- `SrcRead()` of the end-of-input token. -/
  | srcEoi
  /-- `SinkWrite(b)`. -/
  | snk (b : Byte)
  /-- `ResWrite(b)`. -/
  | res (b : Byte)
  deriving DecidableEq, Repr

/-- Why a step stops. Every one of these is raised only in states that no run from reset reaches (log entry 9). -/
inductive Fault where
  /-- A register holds a value outside its legal range (R54, R41): "no rule gives it a next state". Raised by every
  cycle outside reset; safe. -/
  | unreachableRegister
  /-- The controller is in a state that the rules give only to other commands (R220, R240, R251, R260). Raised by an
  instruction's meaning; safe. -/
  | offPath
  /-- The machine is busy and `op` holds a reserved value, for which no rule gives an opcode byte (R113). Raised by
  a step that has no instruction in hand; safe. -/
  | reservedOpRunning
  /-- TX_DATA with `buf_idx` = 256: the chunk buffer has no such byte (R37, R115). Raised by WRITE; safe. -/
  | bufferIndex
  /-- CHECK of READ with `chunk_len` above `remaining`: R193 says this never holds and gives no result for it.
  Raised by READ; safe. -/
  | remainingUnderflow
  deriving DecidableEq, Repr

/-- Why an instruction has no meaning. No arm of exec refuses: every instruction is modelled. -/
inductive Refusal where
  /-- The instruction of this mnemonic has no meaning yet. Raised by exec alone; safe. -/
  | notModelled (mnemonic : String)
  deriving DecidableEq, Repr

/-- The registers of 10_state.md section 2, and after them the model's own fields. -/
structure State where
  /-- `state`, 4 bits (R30). -/
  ctrl : Ctrl
  /-- `op`, 4 bits: the latched operation select, reserved values included (R31). -/
  op : BitVec 4
  /-- `addr`, 32 bits: the running flash address (R32). -/
  addr : Word
  /-- `addr_carry`, 1 bit (R33). -/
  addrCarry : Bool
  /-- `remaining`, 16 bits (R34). -/
  remaining : Len
  /-- `chunk_len`, 9 bits, 0 to 256 (R35). -/
  chunkLen : Count
  /-- `buf_idx`, 9 bits, 0 to 256 (R36). -/
  bufIdx : Count
  /-- `buf[0..255]`, the write chunk buffer (R37), in canonical form (log entry 6). -/
  buf : List Host.Cell
  /-- `eoi`, 1 bit (R38). -/
  eoi : Bool
  /-- `tx_idx`, 3 bits, 0 to 5 (R39). -/
  txIdx : BitVec 3
  /-- `rsp_len`, 9 bits, 0 to 256 (R40). -/
  rspLen : Count
  /-- `rx_cnt`, 9 bits, 0 to 255 (R41). -/
  rxCnt : Count
  /-- `rsp_b0`, 8 bits (R42). -/
  rspB0 : Byte
  /-- `dev_crc`, 32 bits (R43). -/
  devCrc : Word
  /-- `crc`, 32 bits (R44). -/
  crc : Word
  /-- `settle_cnt`, a natural number (R45). -/
  settleCnt : Nat
  /-- `err_code`, 3 bits (R46, R271). -/
  errCode : ErrKind
  /-- `cdone_active`, 1 bit (R47). -/
  cdoneActive : Bool
  /-- `verify_ok`, 1 bit (R48). -/
  verifyOk : Bool
  /-- The model's own: the parameter `SETTLE_CYCLES` of this CORE (R9; log entry 4). No rule writes it. -/
  settleCycles : Nat
  /-- The model's own: the input draws of the coming cycles, the first that of this cycle (R164; log entry 3). -/
  inputs : List Inputs
  /-- The model's own: the number of the cycle, which indexes the free draws (log entry 3). -/
  cycle : Nat
  /-- The model's own: every transfer made so far, oldest first; no rule reads it (log entry 5). -/
  trace : List Transfer
  deriving DecidableEq, Repr

/-- The state after a reset edge: every register at its value in R300, IDLE, `crc` all ones. `buf`, whose power-up
contents the spec leaves unspecified, reads as the model's unlisted value (DESIGN CHOICE, log entry 6). -/
def State.reset : State where
  ctrl := .idle
  op := 0#4
  addr := 0#32
  addrCarry := false
  remaining := 0#16
  chunkLen := 0#9
  bufIdx := 0#9
  buf := []
  eoi := false
  txIdx := 0#3
  rspLen := 0#9
  rxCnt := 0#9
  rspB0 := 0#8
  devCrc := 0#32
  crc := 0xFFFFFFFF#32
  settleCnt := 0
  errCode := .none
  cdoneActive := false
  verifyOk := false
  settleCycles := Config.settleCycles
  inputs := []
  cycle := 0
  trace := []

end Sys2Proof.Machine
end

