-- ==== Sys2Proof/Machine/Ops.lean ====
section
/-! DEFINITION. The shared operations over memory and registers: the chunk buffer, this cycle's inputs, raising an
error, acceptance, reset, the clock edge (10_state.md R37, 42_round_trip_controller.md R155, 60_exceptions.md R276,
70_reset_and_hazards.md R300). -/

namespace Sys2Proof.Machine

/-- What a byte of the chunk buffer that nothing has written reads as: the spec leaves it unspecified (R37).
DESIGN CHOICE, log entry 6. -/
def Memory.unlisted : Byte := 0#8

/-- The byte at an index of the chunk buffer (`buf[i]`, R37). -/
def Memory.read : List Host.Cell → Nat → Byte
  | [], _ => Memory.unlisted
  | (k, b) :: rest, i => if k = i then b else Memory.read rest i

/-- The chunk buffer with one byte written, in canonical form (`buf[i] <- v`, R250). -/
def Memory.write : List Host.Cell → Nat → Byte → List Host.Cell
  | [], i, v => if v = Memory.unlisted then [] else [(i, v)]
  | (k, b) :: rest, i, v =>
      if i < k then (if v = Memory.unlisted then (k, b) :: rest else (i, v) :: (k, b) :: rest)
      else if i = k then (if v = Memory.unlisted then rest else (i, v) :: rest)
      else (k, b) :: Memory.write rest i v

/-- Indices rise strictly from `lo`, lie below 256, and no listed byte is the unlisted value. -/
def Memory.wfFrom (lo : Nat) : List Host.Cell → Bool
  | [] => true
  | (k, b) :: rest => decide (lo ≤ k) && decide (k < 256) && (b != Memory.unlisted) && Memory.wfFrom (k + 1) rest

/-- The canonical form of the chunk buffer: equal buffers are equal data. -/
def Memory.wf (m : List Host.Cell) : Bool :=
  Memory.wfFrom 0 m

/-- The inputs of this cycle: the head of the script, or the free draw where there is none (R164). -/
def State.now (s : State) : Inputs :=
  match s.inputs with
  | n :: _ => n
  | [] => Config.freeInputs s.cycle

/-- `busy`: the controller is neither in IDLE nor in DONE (R22). -/
def State.busy (s : State) : Bool :=
  match s.ctrl with
  | .idle => false
  | .done => false
  | .txOp => true
  | .txHdr => true
  | .txData => true
  | .settle => true
  | .rxLen => true
  | .rxPay => true
  | .check => true
  | .fill => true
  | .crcRun => true

/-- The command in `op`; none where `op` holds a reserved value (R31, R95). -/
def State.command (s : State) : Option Command :=
  Command.ofSelect s.op

/-- `raise E`: the error code is recorded and the operation ends; every other register keeps its value (R276). -/
def State.raise (s : State) (e : ErrKind) : State :=
  { s with errCode := e, ctrl := .done }

/-- The end of an operation with success: DONE, `err_code` as acceptance left it (R157). -/
def State.finish (s : State) : State :=
  { s with ctrl := .done }

/-- The start value of the CRC accumulator (R200, R202). -/
def crcInit : Word := 0xFFFFFFFF#32

/-- `accept_effects()`: what every `cmd.fire` writes (R155). `buf` is not cleared. -/
def State.acceptEffects (s : State) (sel : BitVec 4) (count : Len) : State :=
  { s with
    op := sel
    errCode := .none
    cdoneActive := false
    verifyOk := false
    addr := 0#32
    addrCarry := false
    remaining := if sel = Command.select .read ∨ sel = Command.select .verify then count else 0#16
    chunkLen := 0#9
    bufIdx := 0#9
    txIdx := 0#3
    rxCnt := 0#9
    eoi := false
    rspLen := 0#9
    rspB0 := 0#8
    devCrc := 0#32
    crc := crcInit
    settleCnt := 0 }

/-- A reset edge: every register takes its reset value, `buf` keeps its contents (R300, R303). -/
def State.resetRegs (s : State) : State :=
  { State.reset with
    buf := s.buf
    settleCycles := s.settleCycles
    inputs := s.inputs
    cycle := s.cycle
    trace := s.trace }

/-- The clock edge: this cycle's inputs are gone and its transfers are recorded (R13, R14). -/
def State.tick (s : State) (moved : List Transfer) : State :=
  { s with inputs := s.inputs.tail, cycle := s.cycle + 1, trace := s.trace ++ moved }

/-- Every register is inside its legal range: `tx_idx` up to 5, `chunk_len`, `buf_idx` and `rsp_len` up to 256
(R54), `rx_cnt` up to 255 (R41; log entry 10). -/
def State.legal (s : State) : Bool :=
  decide (s.txIdx.toNat ≤ 5) && decide (s.chunkLen.toNat ≤ 256) && decide (s.bufIdx.toNat ≤ 256)
    && decide (s.rspLen.toNat ≤ 256) && decide (s.rxCnt.toNat ≤ 255)

end Sys2Proof.Machine
end

