-- ==== Sys2Proof/Machine/Operands.lean ====
section
/-! DEFINITION. The operand forms of a command: the length field and header bytes of its frame, the frame in hand,
what the caller offers, accepted lengths and payload counts, chunk length and address advance
(40_frame_encoder.md R111 to R114, 41_response_parser.md R132, 43_address_sequencer.md R191 to R193). -/

namespace Sys2Proof.Machine

/-- `CHUNK_MAX`: the bytes of one read-flash or write-flash round trip, at most (R8, R191). -/
def chunkMax : Nat := 256

/-- `len_field` of R112: the caller's count for VERIFY, the chunk length otherwise. -/
def State.lenField (s : State) (c : Command) : Len :=
  if c = .verify then s.remaining else s.chunkLen.setWidth 16

/-- `hdr(i)` of R114: address bytes 0 to 3, then length bytes 4 and 5, most significant first. -/
def State.headerByte (s : State) (c : Command) : Byte :=
  match s.txIdx.toNat with
  | 0 => byteOf s.addr 3
  | 1 => byteOf s.addr 2
  | 2 => byteOf s.addr 1
  | 3 => byteOf s.addr 0
  | 4 => byteOf (s.lenField c) 1
  | _ => byteOf (s.lenField c) 0

/-- `[buf[i], ..., buf[i+n-1]]` (R111). -/
def Memory.slice (m : List Host.Cell) : Nat → Nat → List Byte
  | _, 0 => []
  | i, n + 1 => Memory.read m i :: Memory.slice m (i + 1) n

/-- The frame of the command in hand, with the sequencer's address and length and the buffered chunk (R111). -/
def State.frame (s : State) (c : Command) : Instr :=
  match c with
  | .fwver => .fwver
  | .halt => .halt
  | .start => .start
  | .cdone => .cdone
  | .erase => .erase
  | .serial => .serial
  | .read => .read s.addr (s.lenField .read)
  | .write => .write s.addr (s.lenField .write) (Memory.slice s.buf 0 s.chunkLen.toNat)
  | .verify => .verify s.addr (s.lenField .verify)

/-- The instruction a caller offers with a command and a count: it starts at address 0 (R190), READ and VERIFY take
the count (R95), and WRITE takes its bytes from the source (R251). -/
def offered (c : Command) (count : Len) : Instr :=
  match c with
  | .fwver => .fwver
  | .halt => .halt
  | .start => .start
  | .cdone => .cdone
  | .erase => .erase
  | .serial => .serial
  | .read => .read 0#32 count
  | .write => .write 0#32 0#16 []
  | .verify => .verify 0#32 count

/-- The `cmd_count` with which an instruction is offered: its length field for READ and VERIFY (R95). -/
def offeredCount (i : Instr) : Len :=
  match i with
  | .fwver => 0#16
  | .halt => 0#16
  | .start => 0#16
  | .cdone => 0#16
  | .erase => 0#16
  | .serial => 0#16
  | .read _ len => len
  | .write _ _ _ => 0#16
  | .verify _ len => len

/-- `cmd_ready`: IDLE or DONE, and no reset (R21, R151, R301). -/
def State.cmdReady (s : State) : Bool :=
  !s.now.rst && !s.busy

/-- `cmd.fire`: the command is accepted in this cycle (R21, R154). -/
def State.cmdFire (s : State) : Bool :=
  s.now.cmdValid && s.cmdReady

/-- The instruction the CORE works on in this cycle: the frame in hand while busy, the offered command in a cycle
that accepts one; none where it waits for a command or the select is reserved (R111, R154, R96). -/
def State.fetch (s : State) : Option Instr :=
  if s.busy then s.command.map s.frame
  else if s.cmdFire then (Command.ofSelect s.now.cmdOp).map fun c => offered c s.now.cmdCount
  else none

/-- The inputs of a cycle in which the caller offers an instruction and nothing else happens. -/
def offerInputs (i : Instr) : Inputs :=
  { cmdValid := true, cmdOp := i.command.select, cmdCount := offeredCount i }

/-- The state in which the very next cycle offers the instruction of a table word on the command interface: a cycle
with that offer is put before the script, and a busy controller is put in IDLE (log entry 14). -/
def State.placeWord (s : State) (nbits w : Nat) : State :=
  match decodeTableWord nbits w with
  | some i =>
      { s with ctrl := if s.busy then .idle else s.ctrl, inputs := offerInputs i :: s.inputs }
  | none => s

/-- `len_ok(op, k)`: the length bytes a command accepts (R132, R94). -/
def State.lenOk (s : State) (c : Command) (k : Byte) : Bool :=
  match c with
  | .fwver => true
  | .halt => k == 1#8
  | .start => k == 1#8
  | .cdone => k == 1#8
  | .erase => k == 1#8
  | .serial => true
  | .read => k == s.chunkLen.setWidth 8
  | .write => k == 1#8
  | .verify => k == 4#8

/-- `pcount(op, k)`: the payload count of an accepted response (R132, R89). -/
def State.pcount (s : State) (c : Command) (k : Byte) : Count :=
  if c = .read then s.chunkLen else k.setWidth 9

/-- `next_chunk(r) = min(r, CHUNK_MAX)` (R191). -/
def nextChunk (r : Len) : Count :=
  BitVec.ofNat 9 (min r.toNat chunkMax)

/-- The exact sum of the address advance (R192). -/
def State.advanceSum (s : State) : Nat :=
  s.addr.toNat + s.chunkLen.toNat

/-- The address advance after an accepted chunk: the sum modulo 2^32, and `addr_carry` set by a carry out of bit 31
(R192, R33; for READ see log entry 13). -/
def State.advance (s : State) : State :=
  { s with
    addr := BitVec.ofNat 32 s.advanceSum
    addrCarry := s.addrCarry || decide (2 ^ 32 ≤ s.advanceSum) }

end Sys2Proof.Machine
end

