-- ==== Sys2Proof/Machine/Flags.lean ====
section
/-! DEFINITION. The codes, the flags and the STATUS word (10_state.md R22, R30, R49, 60_exceptions.md R271), the CRC
(44_crc32_accumulator.md) and the marker bytes of the responses (30_encoding.md R84, R94). -/

namespace Sys2Proof.Machine

/-- The 4-bit encoding of the controller state (R30). -/
def Ctrl.code : Ctrl → BitVec 4
  | .idle => 0#4
  | .done => 1#4
  | .txOp => 2#4
  | .txHdr => 3#4
  | .txData => 4#4
  | .settle => 5#4
  | .rxLen => 6#4
  | .rxPay => 7#4
  | .check => 8#4
  | .fill => 9#4
  | .crcRun => 10#4

/-- The 3-bit `err_code` of an outcome (R271). -/
def ErrKind.code : ErrKind → BitVec 3
  | .none => 0#3
  | .transport => 1#3
  | .protocol => 2#3
  | .mismatch => 3#3
  | .localIo => 4#3
  | .addrOverflow => 5#3
  | .badOp => 6#3

/-- `done`: the controller is in DONE (R22). -/
def State.isDone (s : State) : Bool :=
  s.ctrl == .done

/-- The STATUS word: BUSY 0, DONE 1, ERR 4:2, CDONE 5, VOK 6, CARRY 7, bits 15:8 hardwired 0 (R49). -/
def State.status (s : State) : BitVec 16 :=
  0#8 ++ BitVec.ofBool s.addrCarry ++ BitVec.ofBool s.verifyOk ++ BitVec.ofBool s.cdoneActive
    ++ s.errCode.code ++ BitVec.ofBool s.isDone ++ BitVec.ofBool s.busy

/-- The halt success marker `'R'`. -/
def markerHalt : Byte := 0x52#8

/-- The start success marker `'r'`. -/
def markerStart : Byte := 0x72#8

/-- The erase and write-flash success marker `'O'`. -/
def markerOk : Byte := 0x4F#8

/-- The CDONE marker `'c'`, inactive. -/
def markerInactive : Byte := 0x63#8

/-- The CDONE marker `'C'`, active. -/
def markerActive : Byte := 0x43#8

/-- The bit-reversed polynomial 0x04C11DB7 (R200, R201). -/
def crcPoly : Word := 0xEDB88320#32

/-- The final XOR (R200, R203). -/
def crcFinalXor : Word := 0xFFFFFFFF#32

/-- One bit of the byte step (R201). -/
def crcBit (c : Word) : Word :=
  if c.getLsbD 0 then (c >>> 1) ^^^ crcPoly else c >>> 1

/-- `n` bits of the byte step (R201). -/
def crcBits : Nat → Word → Word
  | 0, c => c
  | n + 1, c => crcBits n (crcBit c)

/-- `crc_step(c, d)` (R201). -/
def crcStep (c : Word) (d : Byte) : Word :=
  crcBits 8 (c ^^^ d.setWidth 32)

/-- The finished digest of the bytes consumed so far (R203). -/
def State.digest (s : State) : Word :=
  s.crc ^^^ crcFinalXor

end Sys2Proof.Machine
end

