-- ==== Sys2Proof/Machine/Ports.lean ====
section
/-! DEFINITION. The ports: sampled errors and their gating, the outputs of each state, the transfers of a cycle
(42_round_trip_controller.md R151 to R153, 41_response_parser.md R133, 10_state.md R22, R27). `c` is always the
command in hand. -/

namespace Sys2Proof.Machine

/-- The error the state samples in this cycle, the one of highest priority where there are two (R152, R280). -/
def State.sampledErr (s : State) (c : Command) : Option ErrKind :=
  match s.ctrl with
  | .idle => none
  | .done => none
  | .txOp => if s.now.chErr then some .transport else none
  | .txHdr => if s.now.chErr then some .transport else none
  | .txData => if s.now.chErr then some .transport else none
  | .settle => none
  | .rxLen => if s.now.chErr then some .transport else none
  | .rxPay =>
      if s.now.chErr then some .transport
      else if c = .read ∧ s.now.snkErr = true then some .localIo
      else none
  | .check => none
  | .fill => if s.now.srcErr then some .localIo else none
  | .crcRun => if s.now.srcErr then some .localIo else none

/-- Every valid and ready output may be 1: no reset (R301) and no sampled error (R153). -/
def State.ungated (s : State) (c : Command) : Bool :=
  !s.now.rst && (s.sampledErr c).isNone

/-- `tx_valid` (R151). -/
def State.txValid (s : State) (c : Command) : Bool :=
  s.ungated c && (s.ctrl == .txOp || s.ctrl == .txHdr || s.ctrl == .txData)

/-- `tx_data`: the frame byte in the TX states, 0x00 elsewhere and in reset (R113 to R115, R151, R301). -/
def State.txByte (s : State) (c : Command) : Byte :=
  if s.now.rst then 0#8
  else match s.ctrl with
    | .idle => 0#8
    | .done => 0#8
    | .txOp => c.opcode
    | .txHdr => s.headerByte c
    | .txData => Memory.read s.buf s.bufIdx.toNat
    | .settle => 0#8
    | .rxLen => 0#8
    | .rxPay => 0#8
    | .check => 0#8
    | .fill => 0#8
    | .crcRun => 0#8

/-- The payload of the command goes to the sink (R133). -/
def payloadToSink (c : Command) : Bool :=
  c == .read

/-- The payload of the command goes to the result stream (R133). -/
def payloadToResult (c : Command) : Bool :=
  c == .fwver || c == .serial

/-- The sink route is active: RX_PAY of READ, outside reset (R133, R151, R301; log entry 12). -/
def State.snkRoute (s : State) (c : Command) : Bool :=
  !s.now.rst && s.ctrl == .rxPay && payloadToSink c

/-- The result route is active: RX_PAY of FWVER or SERIAL, outside reset (R133, R151, R301; log entry 12). -/
def State.resRoute (s : State) (c : Command) : Bool :=
  !s.now.rst && s.ctrl == .rxPay && payloadToResult c

/-- `snk_valid`, the pass-through of `rx_valid` (R133). -/
def State.snkValid (s : State) (c : Command) : Bool :=
  s.ungated c && s.snkRoute c && s.now.rxValid

/-- `res_valid`, the pass-through of `rx_valid` (R133). -/
def State.resValid (s : State) (c : Command) : Bool :=
  s.ungated c && s.resRoute c && s.now.rxValid

/-- Whether the destination of a payload byte takes it in this cycle (R133). -/
def State.payloadReady (s : State) (c : Command) : Bool :=
  if payloadToSink c then s.now.snkReady else if payloadToResult c then s.now.resReady else true

/-- `rx_ready` (R151, R133). -/
def State.rxReady (s : State) (c : Command) : Bool :=
  s.ungated c && (s.ctrl == .rxLen || (s.ctrl == .rxPay && s.payloadReady c))

/-- `src_ready` (R151). -/
def State.srcReady (s : State) (c : Command) : Bool :=
  s.ungated c && (s.ctrl == .fill || s.ctrl == .crcRun)

/-- `tx.fire` (R14). -/
def State.txFire (s : State) (c : Command) : Bool :=
  s.txValid c && s.now.txReady

/-- `rx.fire` (R14). -/
def State.rxFire (s : State) (c : Command) : Bool :=
  s.now.rxValid && s.rxReady c

/-- `src.fire` (R14). -/
def State.srcFire (s : State) (c : Command) : Bool :=
  s.now.srcValid && s.srcReady c

/-- `snk.fire` (R14). -/
def State.snkFire (s : State) (c : Command) : Bool :=
  s.snkValid c && s.now.snkReady

/-- `res.fire` (R14). -/
def State.resFire (s : State) (c : Command) : Bool :=
  s.resValid c && s.now.resReady

/-- Every transfer of this cycle (R14, R15). A payload byte is listed as received before it is listed as passed on
(log entry 5). -/
def State.transfers (s : State) (c : Command) : List Transfer :=
  (if s.cmdFire then [.cmd s.now.cmdOp s.now.cmdCount] else [])
    ++ (if s.txFire c then [.tx (s.txByte c)] else [])
    ++ (if s.rxFire c then [.rx s.now.rxData] else [])
    ++ (if s.snkFire c then [.snk s.now.rxData] else [])
    ++ (if s.resFire c then [.res s.now.rxData] else [])
    ++ (if s.srcFire c then [if s.now.srcEoi then .srcEoi else .src s.now.srcData] else [])

/-- Every output port of the CORE in one cycle (R21 to R27). -/
structure Outputs where
  cmdReady : Bool
  txValid : Bool
  txData : Byte
  rxReady : Bool
  srcReady : Bool
  snkValid : Bool
  snkData : Byte
  resValid : Bool
  resData : Byte
  busy : Bool
  done : Bool
  errCode : BitVec 3
  cdoneActive : Bool
  verifyOk : Bool
  status : BitVec 16
  rspLenO : Count
  rspB0O : Byte
  devCrcO : Word
  crcLocalO : Word
  seqAddrO : Word
  seqRemainingO : Len
  deriving DecidableEq, Repr

/-- The outputs of this cycle with command `c` in hand: the handshake outputs of R151, R153 and R301, the status
outputs of R22 and the observation outputs of R27, which show the registers in reset as well. -/
def State.outputs (s : State) (c : Command) : Outputs where
  cmdReady := s.cmdReady
  txValid := s.txValid c
  txData := s.txByte c
  rxReady := s.rxReady c
  srcReady := s.srcReady c
  snkValid := s.snkValid c
  snkData := if s.snkRoute c then s.now.rxData else 0#8
  resValid := s.resValid c
  resData := if s.resRoute c then s.now.rxData else 0#8
  busy := s.busy
  done := s.isDone
  errCode := s.errCode.code
  cdoneActive := s.cdoneActive
  verifyOk := s.verifyOk
  status := s.status
  rspLenO := s.rspLen
  rspB0O := s.rspB0
  devCrcO := s.devCrc
  crcLocalO := s.digest
  seqAddrO := s.addr
  seqRemainingO := s.remaining

end Sys2Proof.Machine
end

