-- ==== Sys2Proof/Machine/Controller.lean ====
section
/-! DEFINITION. The state rules every command shares, and one clock cycle of a command (40_frame_encoder.md R113 to
R115, 41_response_parser.md R131 to R136, 42_round_trip_controller.md R150 to R157, 44_crc32_accumulator.md R204,
47_flash_write.md R250). -/

namespace Sys2Proof.Machine

/-- The shape of every state that waits on a transfer: raise a sampled error, act on the transfer, or hold (R153,
R160). -/
def State.onTransfer (s : State) (c : Command) (fire : Bool) (act : State) : State :=
  match s.sampledErr c with
  | some e => s.raise e
  | none => if fire then act else s

/-- TX_OP after the opcode byte is sent (R113). -/
def State.afterOpcode (s : State) (c : Command) : State :=
  if c.format = .f0 then { s with ctrl := .rxLen } else { s with txIdx := 0#3, ctrl := .txHdr }

/-- TX_HDR after a header byte is sent (R114). -/
def State.afterHeaderByte (s : State) (c : Command) : State :=
  if s.txIdx = 5#3 then
    if c = .write then { s with bufIdx := 0#9, ctrl := .txData } else { s with ctrl := .rxLen }
  else { s with txIdx := s.txIdx + 1#3 }

/-- TX_DATA after a data byte is sent (R115). -/
def State.afterDataByte (s : State) : State :=
  if s.bufIdx.toNat + 1 = s.chunkLen.toNat then
    { s with settleCnt := s.settleCycles, ctrl := .settle }
  else { s with bufIdx := s.bufIdx + 1#9 }

/-- SETTLE: one cycle of the settle delay (R156). -/
def State.settleCycle (s : State) : State :=
  if s.settleCnt ≤ 1 then { s with settleCnt := 0, ctrl := .rxLen }
  else { s with settleCnt := s.settleCnt - 1 }

/-- RX_LEN with the length byte received (R131). -/
def State.takeLength (s : State) (c : Command) : State :=
  if s.lenOk c s.now.rxData then
    { s with
      rspLen := s.pcount c s.now.rxData
      rxCnt := 0#9
      ctrl := if s.pcount c s.now.rxData = 0#9 then .check else .rxPay }
  else { s with rspLen := s.now.rxData.setWidth 9 }.raise .protocol

/-- `capture(b)` (R136). -/
def State.capture (s : State) (c : Command) (b : Byte) : State :=
  { s with
    rspB0 := if s.rxCnt = 0#9 then b else s.rspB0
    devCrc := if c = .verify then s.devCrc.setWidth 24 ++ b else s.devCrc }

/-- RX_PAY with a payload byte received (R134). -/
def State.takePayload (s : State) (c : Command) : State :=
  if s.rxCnt.toNat + 1 = s.rspLen.toNat then { s.capture c s.now.rxData with ctrl := .check }
  else { s.capture c s.now.rxData with rxCnt := s.rxCnt + 1#9 }

/-- The buffer index a data token of FILL is written to: `buf_idx[7:0]` (R250). -/
def State.fillIndex (s : State) : Nat :=
  s.bufIdx.toNat % 256

/-- A full or last chunk is ready: refuse it past the address space, or send it (R250, R195, R277). -/
def State.chunkReady (s : State) (n : Count) : State :=
  if s.addrCarry then s.raise .addrOverflow else { s with chunkLen := n, ctrl := .txOp }

/-- The data byte of this cycle's token goes into the chunk buffer (R250). -/
def State.storeByte (s : State) : State :=
  { s with buf := Memory.write s.buf s.fillIndex s.now.srcData }

/-- End of input has been seen (R38, R250). -/
def State.endInput (s : State) : State :=
  { s with eoi := true }

/-- FILL with a source token taken (R250). -/
def State.takeFill (s : State) : State :=
  if s.now.srcEoi then
    if s.bufIdx = 0#9 then s.endInput.finish else s.endInput.chunkReady s.bufIdx
  else if s.bufIdx.toNat + 1 = 256 then s.storeByte.chunkReady 256#9
  else { s.storeByte with bufIdx := s.bufIdx + 1#9 }

/-- CRC_RUN with a source token taken (R204). -/
def State.takeCrc (s : State) : State :=
  if s.now.srcEoi then { s with ctrl := .txOp } else { s with crc := crcStep s.crc s.now.srcData }

/-- IDLE and DONE: acceptance, or hold (R154). `begin` is the command's first move after the common effects. -/
def State.acceptCycle (s : State) (c : Command) (count : Len) (begin : State → State) : State :=
  if s.cmdFire then begin (s.acceptEffects c.select count) else s

/-- The register writes of one clock cycle of command `c` outside reset, by controller state (R150). `begin` is the
command's first move, `check` its check (R157). -/
def State.commandCycle (s : State) (c : Command) (count : Len) (begin check : State → State) : State :=
  match s.ctrl with
  | .idle => s.acceptCycle c count begin
  | .done => s.acceptCycle c count begin
  | .txOp => s.onTransfer c (s.txFire c) (s.afterOpcode c)
  | .txHdr => s.onTransfer c (s.txFire c) (s.afterHeaderByte c)
  | .txData => s.onTransfer c (s.txFire c) s.afterDataByte
  | .settle => s.settleCycle
  | .rxLen => s.onTransfer c (s.rxFire c) (s.takeLength c)
  | .rxPay => s.onTransfer c (s.rxFire c) (s.takePayload c)
  | .check => check s
  | .fill => s.onTransfer c (s.srcFire c) s.takeFill
  | .crcRun => s.onTransfer c (s.srcFire c) s.takeCrc

/-- The controller states on a command's path (R220, R240, R251, R260). -/
def onPath (c : Command) (k : Ctrl) : Bool :=
  match k with
  | .idle => true
  | .done => true
  | .txOp => true
  | .txHdr => c.format != .f0
  | .txData => c == .write
  | .settle => c == .write
  | .rxLen => true
  | .rxPay => true
  | .check => true
  | .fill => c == .write
  | .crcRun => c == .verify

/-- Why a cycle with command `c` in hand has no next state; all unreachable from reset (R54; log entry 9). -/
def State.stop (s : State) (c : Command) : Option Fault :=
  if s.legal = false then some .unreachableRegister
  else if onPath c s.ctrl = false then some .offPath
  else if s.ctrl = .txData ∧ s.bufIdx = 256#9 then some .bufferIndex
  else if s.ctrl = .check ∧ c = .read ∧ s.remaining.toNat < s.chunkLen.toNat then some .remainingUnderflow
  else none

/-- One clock cycle with command `c` in hand: reset comes first (R300, R301; log entry 11), then the stops, then the
register writes together with the transfers of the cycle (R13, R14). -/
def State.clocked (s : State) (c : Command) (after : State) : Host.Outcome State Fault Refusal :=
  if s.now.rst then .next (s.resetRegs.tick [])
  else
    match s.stop c with
    | some f => .fault f
    | none => .next (after.tick (s.transfers c))

/-- A cycle with no instruction in hand: reset; a reserved select is accepted and ends at once with BAD_OP (R96,
R278); with no command every register holds (R154). -/
def State.idleCycle (s : State) : Host.Outcome State Fault Refusal :=
  if s.now.rst then .next (s.resetRegs.tick [])
  else if s.legal = false then .fault .unreachableRegister
  else if s.busy then .fault .reservedOpRunning
  else if s.cmdFire then
    .next (((s.acceptEffects s.now.cmdOp s.now.cmdCount).raise .badOp).tick [.cmd s.now.cmdOp s.now.cmdCount])
  else .next (s.tick [])

end Sys2Proof.Machine
end

