-- ==== Sys2Proof/Machine/FlashRead.lean ====
section
/-! DEFINITION. READ: a loop of read-flash round trips (46_flash_read.md R240). -/

namespace Sys2Proof.Machine

/-- The first move of READ: success at once for a count of 0, else the first chunk (R154, R191). -/
def State.beginRead (count : Len) (s : State) : State :=
  if count = 0#16 then s.finish else { s with chunkLen := nextChunk count, ctrl := .txOp }

/-- What is left to read after the chunk (R193). -/
def State.remainingAfter (s : State) : Len :=
  s.remaining - s.chunkLen.setWidth 16

/-- The address advances and the remaining count falls by the chunk length (R192, R193). -/
def State.consumeChunk (s : State) : State :=
  { s.advance with remaining := s.remainingAfter }

/-- `check(READ)`: consume the chunk, and end or start the next one (R240). -/
def State.checkRead (s : State) : State :=
  if s.remainingAfter = 0#16 then s.consumeChunk.finish
  else { s.consumeChunk with chunkLen := nextChunk s.remainingAfter, ctrl := .txOp }

/-- READ of `count` bytes from address 0: one cycle (R240). The count is read at acceptance only (R28). -/
def execRead (count : Len) (s : State) : Host.Outcome State Fault Refusal :=
  s.clocked .read (s.commandCycle .read count (State.beginRead count) State.checkRead)

end Sys2Proof.Machine
end

