-- ==== Sys2Proof/Machine/FlashWrite.lean ====
section
/-! DEFINITION. WRITE: a loop of chunk fills and write-flash round trips (47_flash_write.md R250, R251). -/

namespace Sys2Proof.Machine

/-- The first move of WRITE: fill the first chunk (R154). -/
def State.beginWrite (s : State) : State :=
  { s with ctrl := .fill }

/-- `check(WRITE)`: on the success marker advance, and end after end-of-input or fill the next chunk (R251, R192). -/
def State.checkWrite (s : State) : State :=
  if s.rspB0 = markerOk then
    if s.eoi then s.advance.finish else { s.advance with bufIdx := 0#9, ctrl := .fill }
  else s.raise .protocol

/-- WRITE of the source's bytes from address 0: one cycle (R251). -/
def execWrite (s : State) : Host.Outcome State Fault Refusal :=
  s.clocked .write (s.commandCycle .write 0#16 State.beginWrite State.checkWrite)

end Sys2Proof.Machine
end

