-- ==== Sys2Proof/Machine/Status.lean ====
section
/-! DEFINITION. The six status commands: one round trip of a one-byte frame each (45_status_ops.md R220 to R226). -/

namespace Sys2Proof.Machine

/-- The first move of a status command: send its opcode (R154). -/
def State.beginStatus (s : State) : State :=
  { s with ctrl := .txOp }

/-- The check of a command whose one payload byte must be a marker (R222, R223, R225). -/
def State.checkMarker (s : State) (marker : Byte) : State :=
  if s.rspB0 = marker then s.finish else s.raise .protocol

/-- `check(CDONE)` (R224). -/
def State.checkCdone (s : State) : State :=
  if s.rspB0 = markerActive then { s with cdoneActive := true }.finish
  else if s.rspB0 = markerInactive then { s with cdoneActive := false }.finish
  else s.raise .protocol

/-- FWVER: one cycle; any response is accepted and its payload goes to the result stream (R221). -/
def execFwver (s : State) : Host.Outcome State Fault Refusal :=
  s.clocked .fwver (s.commandCycle .fwver 0#16 State.beginStatus State.finish)

/-- HALT: one cycle; the answer must be `'R'` (R222). -/
def execHalt (s : State) : Host.Outcome State Fault Refusal :=
  s.clocked .halt (s.commandCycle .halt 0#16 State.beginStatus fun t => t.checkMarker markerHalt)

/-- START: one cycle; the answer must be `'r'` (R223). -/
def execStart (s : State) : Host.Outcome State Fault Refusal :=
  s.clocked .start (s.commandCycle .start 0#16 State.beginStatus fun t => t.checkMarker markerStart)

/-- CDONE: one cycle; the answer `'c'` or `'C'` is recorded (R224). -/
def execCdone (s : State) : Host.Outcome State Fault Refusal :=
  s.clocked .cdone (s.commandCycle .cdone 0#16 State.beginStatus State.checkCdone)

/-- ERASE: one cycle; the answer must be `'O'` (R225). -/
def execErase (s : State) : Host.Outcome State Fault Refusal :=
  s.clocked .erase (s.commandCycle .erase 0#16 State.beginStatus fun t => t.checkMarker markerOk)

/-- SERIAL: one cycle; any response is accepted and its payload goes to the result stream (R226). -/
def execSerial (s : State) : Host.Outcome State Fault Refusal :=
  s.clocked .serial (s.commandCycle .serial 0#16 State.beginStatus State.finish)

end Sys2Proof.Machine
end

