-- ==== Sys2Proof/Machine/Verify.lean ====
section
/-! DEFINITION. VERIFY: the CRC of the local image, one verify-crc round trip and the compare (48_verify.md R260). -/

namespace Sys2Proof.Machine

/-- The first move of VERIFY: consume the local image (R154). -/
def State.beginVerify (s : State) : State :=
  { s with ctrl := .crcRun }

/-- `check(VERIFY)`: the device digest must equal the local digest (R260). -/
def State.checkVerify (s : State) : State :=
  if s.devCrc = s.digest then { s with verifyOk := true }.finish else s.raise .mismatch

/-- VERIFY with byte count `count`: one cycle (R260). The count is read at acceptance only (R28). -/
def execVerify (count : Len) (s : State) : Host.Outcome State Fault Refusal :=
  s.clocked .verify (s.commandCycle .verify count State.beginVerify State.checkVerify)

end Sys2Proof.Machine
end

