-- ==== Sys2Proof/Machine/Dispatch.lean ====
section
/-! DEFINITION. One clock cycle of the CORE with an instruction in hand, one arm per constructor of Instr. -/

namespace Sys2Proof.Machine

-- The address and data fields of a frame are the CORE's own (log entry 1): the meanings take them from `addr` and `buf`.
def exec (i : Instr) (s : State) : Host.Outcome State Fault Refusal :=
  match i with
  | .fwver => Sys2Proof.Machine.execFwver s
  | .halt => Sys2Proof.Machine.execHalt s
  | .start => Sys2Proof.Machine.execStart s
  | .cdone => Sys2Proof.Machine.execCdone s
  | .erase => Sys2Proof.Machine.execErase s
  | .serial => Sys2Proof.Machine.execSerial s
  | .read _ len => Sys2Proof.Machine.execRead len s
  | .write _ _ _ => Sys2Proof.Machine.execWrite s
  | .verify _ len => Sys2Proof.Machine.execVerify len s

end Sys2Proof.Machine
end

