-- ==== Sys2Proof/Machine/Step.lean ====
section
/-! DEFINITION. One step of the CORE: one clock cycle (42_round_trip_controller.md R164, 92_eei_decisions.md D1). -/

namespace Sys2Proof.Machine

/-- One clock cycle: the instruction in hand runs; with none in hand the controller waits, rejects a reserved select
or is reset (R111, R154, R164). -/
def step (s : State) : Host.Outcome State Fault Refusal :=
  match s.fetch with
  | some i => exec i s
  | none => s.idleCycle

/-- The state whose very next step offers the instruction of a table word to the CORE (log entry 14). -/
def State.withFetchWord (s : State) (nbits w : Nat) : State :=
  s.placeWord nbits w

end Sys2Proof.Machine
end

