-- ==== Sys2Proof/Safety.lean ====
section
/-! DEFINITION. What counts as a safe run: the invariant that every state a run reaches satisfies, and the terms in
which statements say that a cycle runs. -/

namespace Sys2Proof.Machine

/-- The cycle neither resets nor stops with command `c` in hand: it completes with a next state. -/
def State.Runs (s : State) (c : Command) : Prop :=
  s.now.rst = false ∧ s.stop c = none

/-- The invariant of the CORE: what the rules say, or imply, of every state that a run from reset reaches. -/
structure State.Inv (s : State) : Prop where
  /-- Every register is inside its legal range (R54, R41). -/
  legal : s.legal = true
  /-- The chunk buffer is in canonical form. -/
  bufWf : Memory.wf s.buf = true
  /-- `SETTLE_CYCLES` is at least 1 (R9). -/
  settlePos : 1 ≤ s.settleCycles
  /-- A busy controller runs one of the nine commands, in a state on that command's path (R113, R150). -/
  running : s.busy = true → ∃ c, s.command = some c ∧ onPath c s.ctrl = true
  /-- An error has ended its operation (R276). -/
  errorEnds : s.errCode ≠ .none → s.ctrl = .done
  /-- `cdone_active` is the answer of a CDONE that has ended (R47). -/
  cdoneEnds : s.cdoneActive = true → s.ctrl = .done ∧ s.command = some .cdone
  /-- `verify_ok` says that a VERIFY has ended with equal digests (R48). -/
  verifyEnds : s.verifyOk = true → s.ctrl = .done ∧ s.command = some .verify ∧ s.devCrc = s.digest
  /-- Only WRITE carries out of the address, and then it is filling a chunk or has ended (R195). -/
  carryWrite : s.addrCarry = true → s.command = some .write ∧ (s.ctrl = .fill ∨ s.ctrl = .done)
  /-- A running READ has a chunk of min(remaining, 256) bytes at a multiple of 256, inside the first 65535 (R194). -/
  readChunk : s.busy = true → s.command = some .read →
    1 ≤ s.chunkLen.toNat ∧ s.chunkLen = nextChunk s.remaining ∧ s.addr.toNat % 256 = 0 ∧
      s.addr.toNat + s.remaining.toNat ≤ 65535
  /-- A READ that ended with success has nothing left to read (R240). -/
  readEnds : s.ctrl = .done → s.command = some .read → s.errCode = .none → s.remaining = 0#16
  /-- A running WRITE is at a multiple of 256; past FILL its chunk is not empty, and short only at end of input; in
  FILL the buffer has room and the input goes on (R194, R250). -/
  writeChunk : s.busy = true → s.command = some .write →
    s.addr.toNat % 256 = 0 ∧
      (s.ctrl ≠ .fill → 1 ≤ s.chunkLen.toNat ∧ (s.eoi = false → s.chunkLen = 256#9)) ∧
      (s.ctrl = .fill → s.bufIdx.toNat ≤ 255 ∧ s.eoi = false)
  /-- TX_DATA is at a byte of the chunk (R115). -/
  writeData : s.ctrl = .txData → s.bufIdx.toNat < s.chunkLen.toNat
  /-- A running VERIFY names address 0 (R260). -/
  verifyAddr : s.busy = true → s.command = some .verify → s.addr = 0#32
  /-- The settle counter runs from `SETTLE_CYCLES` down to 1 (R156). -/
  settling : s.ctrl = .settle → 1 ≤ s.settleCnt ∧ s.settleCnt ≤ s.settleCycles
  /-- In RX_PAY a byte is still to come, and a READ expects its chunk length (R134, R132). -/
  payload : s.ctrl = .rxPay →
    s.rxCnt.toNat < s.rspLen.toNat ∧ (s.command = some .read → s.rspLen = s.chunkLen)

end Sys2Proof.Machine
end

