-- ==== Sys2Proof/Certificates/Slice0/Obligations.lean ====
section
/-! DEFINITION. The statements for the provers: what the rules of spec/ say of the CORE. A cycle is one step. -/

open Sys2Proof Sys2Proof.Machine

/-! ## Encoding -/

/-- Decoding the bytes of a well-formed frame gives the frame back, whatever follows it (R81, R90, R110). -/
def Obligations.DecodeOfEncodedFrame : Prop :=
  ∀ (i : Instr) (rest : List Byte), i.wellFormed = true → decode (encode i ++ rest) = .ok (i, rest)

/-- A decoded frame is well formed and its bytes are those that were read (R81, R90). -/
def Obligations.EncodeOfDecodedFrame : Prop :=
  ∀ (i : Instr) (bytes rest : List Byte),
    decode bytes = .ok (i, rest) → i.wellFormed = true ∧ encode i ++ rest = bytes

/-- A byte sequence is refused as a reserved opcode exactly when its first byte is none of the nine of R85 (R92). -/
def Obligations.ReservedOpcodesRefused : Prop :=
  ∀ (b : Byte) (rest : List Byte),
    decode (b :: rest) = .error (.reservedOpcode b) ↔
      b.toNat ∉ [0x21, 0x68, 0x67, 0x63, 0x65, 0x73, 0x72, 0x77, 0x74]

/-- All nine rows of R85 decode to the instructions they stand for. The frames are those of the spec's encodings and
examples (R85, R110). Written as a word, a one-byte frame is its byte; a longer one is written for decodeTableWord with
its first byte in bits 7 to 0, which is the model's choice and not the spec's (DESIGN CHOICE, log entry 19), and for
decodeEncodingWord with its first byte most significant, which is the bit view of R82. Each row's operation select is
the value of R95. -/
def Obligations.SpecWordsDecode : Prop :=
  decodeTableWord 8 0x21 = some .fwver ∧
  decodeTableWord 8 0x68 = some .halt ∧
  decodeTableWord 8 0x67 = some .start ∧
  decodeTableWord 8 0x63 = some .cdone ∧
  decodeTableWord 8 0x65 = some .erase ∧
  decodeTableWord 8 0x73 = some .serial ∧
  decodeTableWord 56 0xCDAB7856341272 = some (.read 0x12345678#32 0xABCD#16) ∧
  decodeTableWord 72 0x55AA02000001000077 = some (.write 0x100#32 2#16 [0xAA#8, 0x55#8]) ∧
  decodeTableWord 56 0x09000000000074 = some (.verify 0#32 9#16) ∧
  decodeEncodingWord 8 0x21 = some .fwver ∧
  decodeEncodingWord 56 0x7212345678ABCD = some (.read 0x12345678#32 0xABCD#16) ∧
  decodeEncodingWord 72 0x77000001000002AA55 = some (.write 0x100#32 2#16 [0xAA#8, 0x55#8]) ∧
  decodeEncodingWord 56 0x74000000000009 = some (.verify 0#32 9#16) ∧
  [0#4, 1#4, 2#4, 3#4, 4#4, 5#4, 6#4, 7#4, 8#4].map Command.ofSelect =
    [some .fwver, some .halt, some .start, some .cdone, some .erase, some .serial, some .read, some .write,
      some .verify] ∧
  decode [0x72#8, 0x12#8, 0x34#8, 0x56#8, 0x78#8, 0xAB#8, 0xCD#8] = .ok (.read 0x12345678#32 0xABCD#16, []) ∧
  decode [0x77#8, 0#8, 0#8, 1#8, 0#8, 0#8, 2#8, 0xAA#8, 0x55#8] = .ok (.write 0x100#32 2#16 [0xAA#8, 0x55#8], []) ∧
  decode [0x74#8, 0#8, 0#8, 0#8, 0#8, 0#8, 9#8] = .ok (.verify 0#32 9#16, [])

/-- The address field is the four bytes of the address and the length field the two bytes of the length, most
significant first, in every frame that has them (R86, R87 with their examples). The first seven bytes of such a frame,
read with f0 most significant, are one 56-bit number with the opcode in bits 55 to 48, the address in 47 to 16 and the
length in 15 to 0; a format F0 frame in this view is its opcode byte; and decoding a word in this view gives back the
instruction (R82). -/
def Obligations.FieldBytesMostSignificantFirst : Prop :=
  (∀ (a : Word) (l : Len) (d : List Byte),
    ∃ bytes : List Byte,
      bytes.map BitVec.toNat =
        [a.toNat / 2 ^ 24, a.toNat / 2 ^ 16 % 256, a.toNat / 2 ^ 8 % 256, a.toNat % 256,
          l.toNat / 2 ^ 8, l.toNat % 256] ∧
      encode (.read a l) = 0x72#8 :: bytes ∧
      encode (.verify a l) = 0x74#8 :: bytes ∧
      encode (.write a l d) = 0x77#8 :: (bytes ++ d)) ∧
  addressBytes 0x00000100#32 = [0x00#8, 0x00#8, 0x01#8, 0x00#8] ∧
  lengthBytes 256#16 = [0x01#8, 0x00#8] ∧
  lengthBytes 88#16 = [0x00#8, 0x58#8] ∧
  (∀ (f0 f1 f2 f3 f4 f5 f6 : Byte) (rest : List Byte),
    headerView (f0 :: f1 :: f2 :: f3 :: f4 :: f5 :: f6 :: rest) = some (f0 ++ f1 ++ f2 ++ f3 ++ f4 ++ f5 ++ f6)) ∧
  (∀ (i : Instr) (op : Byte) (a : Word) (l : Len) (d : List Byte),
    (i, op) ∈ [(.read a l, 0x72#8), (.verify a l, 0x74#8), (.write a l d, 0x77#8)] →
    ∃ h : BitVec 56, headerView (encode i) = some h ∧
      h.extractLsb' 48 8 = op ∧ h.extractLsb' 16 32 = a ∧ h.extractLsb' 0 16 = l ∧
      viewOpcode h = op ∧ viewAddress h = a ∧ viewLength h = l ∧
      h.toNat = op.toNat * 2 ^ 48 + a.toNat * 2 ^ 16 + l.toNat) ∧
  (∀ c : Command, c.format = .f0 → encodingBytes 8 c.opcode.toNat = [c.opcode]) ∧
  (∀ i : Instr, i.wellFormed = true →
    decodeEncodingWord (8 * (encode i).length) (encodingWord (encode i)) = some i)

/-! ## Steps, reset and the command interface -/

/-- A step runs the instruction in hand: the frame of R111 while the CORE is busy, the offered command in a cycle that
accepts one (R154), and where there is none, the idle cycle. -/
def Obligations.StepRunsInstructionInHand : Prop :=
  ∀ s : State,
    (∀ i, s.fetch = some i → step s = exec i s) ∧
    (s.fetch = none → step s = s.idleCycle) ∧
    (∀ c, s.busy = true → s.command = some c → s.fetch = some (s.frame c)) ∧
    (∀ c, s.busy = false → s.now.rst = false → s.now.cmdValid = true → Command.ofSelect s.now.cmdOp = some c →
      s.fetch = some (offered c s.now.cmdCount))

/-- A table word that stands for an instruction a caller can offer is run by the very next step after it is placed. How
a word is numbered (first byte in bits 7 to 0, log entry 19) and how it is placed (log entry 14) are the model's
choices. -/
def Obligations.PlacedWordRunsNext : Prop :=
  ∀ (s : State) (nbits w : Nat) (i : Instr),
    decodeTableWord nbits w = some i → i.offerable = true →
      step (s.withFetchWord nbits w) = exec i (s.withFetchWord nbits w)

/-- The state right after reset has the register values of R300's table, is in IDLE, shows STATUS 0x0000, and would
accept a command in its first cycle without reset (R300, R302). -/
def Obligations.ResetStateValues : Prop :=
  let s := State.reset
  s.ctrl = .idle ∧ s.op = 0#4 ∧ s.addr = 0#32 ∧ s.addrCarry = false ∧ s.remaining = 0#16 ∧ s.chunkLen = 0#9 ∧
    s.bufIdx = 0#9 ∧ s.eoi = false ∧ s.txIdx = 0#3 ∧ s.rspLen = 0#9 ∧ s.rxCnt = 0#9 ∧ s.rspB0 = 0#8 ∧
    s.devCrc = 0#32 ∧ s.crc = 0xFFFFFFFF#32 ∧ s.settleCnt = 0 ∧ s.errCode.code = 0#3 ∧ s.cdoneActive = false ∧
    s.verifyOk = false ∧ s.status = 0x0000#16 ∧
    ∀ n rest, n.rst = false → ({ s with inputs := n :: rest } : State).cmdReady = true

/-- At an edge with rst = 1 every register takes its reset value from any state at all, IDLE among them; the chunk
buffer keeps every byte; no transfer is made; busy, done and STATUS are 0 after it (R300). -/
def Obligations.ResetEdgeFromAnyState : Prop :=
  ∀ s : State, s.now.rst = true →
    ∃ t, step s = .next t ∧
      t.ctrl = .idle ∧ t.op = 0#4 ∧ t.addr = 0#32 ∧ t.addrCarry = false ∧ t.remaining = 0#16 ∧ t.chunkLen = 0#9 ∧
      t.bufIdx = 0#9 ∧ t.eoi = false ∧ t.txIdx = 0#3 ∧ t.rspLen = 0#9 ∧ t.rxCnt = 0#9 ∧ t.rspB0 = 0#8 ∧
      t.devCrc = 0#32 ∧ t.crc = 0xFFFFFFFF#32 ∧ t.settleCnt = 0 ∧ t.errCode = .none ∧ t.cdoneActive = false ∧
      t.verifyOk = false ∧ t.settleCycles = s.settleCycles ∧
      (∀ k, Memory.read t.buf k = Memory.read s.buf k) ∧
      t.trace = s.trace ∧ t.busy = false ∧ t.isDone = false ∧ t.status = 0x0000#16

/-- While rst = 1 every valid, ready and data output is 0 in every state, so nothing moves, and the status and
observation outputs show the registers as they are (R301). -/
def Obligations.ResetGatesEveryOutput : Prop :=
  ∀ (s : State) (c : Command), s.now.rst = true →
    let o := s.outputs c
    o.cmdReady = false ∧ o.txValid = false ∧ o.rxReady = false ∧ o.srcReady = false ∧ o.snkValid = false ∧
      o.resValid = false ∧ o.txData = 0#8 ∧ o.snkData = 0#8 ∧ o.resData = 0#8 ∧ s.transfers c = [] ∧
      o.busy = s.busy ∧ o.done = s.isDone ∧ o.errCode = s.errCode.code ∧ o.cdoneActive = s.cdoneActive ∧
      o.verifyOk = s.verifyOk ∧ o.status = s.status ∧ o.rspLenO = s.rspLen ∧ o.rspB0O = s.rspB0 ∧
      o.devCrcO = s.devCrc ∧ o.crcLocalO = s.crc ^^^ 0xFFFFFFFF#32 ∧ o.seqAddrO = s.addr ∧
      o.seqRemainingO = s.remaining

/-- cmd_op and cmd_count are sampled only in a cycle where cmd.fire holds: changed in any other cycle, a busy one
included, they change nothing at all of the step; where cmd.fire holds they are what acceptance latches (R28). -/
def Obligations.CommandInputsSampledOnlyAtFire : Prop :=
  (∀ (s : State) (n : Inputs) (rest : List Inputs) (op : BitVec 4) (count : Len),
    s.inputs = n :: rest → s.cmdFire = false →
      step { s with inputs := { n with cmdOp := op, cmdCount := count } :: rest } = step s) ∧
  (∀ s t : State, s.cmdFire = true → step s = .next t →
    t.op = s.now.cmdOp ∧
      t.remaining = if s.now.cmdOp = 6#4 ∨ s.now.cmdOp = 8#4 then s.now.cmdCount else 0#16)

/-- A running operation cannot be cancelled by the caller: while busy, cmd_ready is 0 and offering a command changes
nothing of the step (R159). -/
def Obligations.BusyIgnoresOfferedCommands : Prop :=
  ∀ (s : State) (n : Inputs) (rest : List Inputs) (v : Bool),
    s.inputs = n :: rest → s.busy = true →
      s.cmdReady = false ∧ step { s with inputs := { n with cmdValid := v } :: rest } = step s

/-- In IDLE and DONE without a command every register keeps its value, and no transfer is made (R154, R161). -/
def Obligations.WaitingHoldsEveryRegister : Prop :=
  ∀ s : State, s.now.rst = false → s.legal = true → s.busy = false → s.now.cmdValid = false →
    step s = .next (s.tick [])

/-- No operation sees another's leftovers: two waiting CORES that agree on the chunk buffer alone (and on the
environment) do exactly the same when a command is accepted, from IDLE or from DONE (R155, R161, R162, R305). -/
def Obligations.AcceptanceForgetsTheLastOperation : Prop :=
  ∀ s₁ s₂ : State, s₁.legal = true → s₂.legal = true → s₁.busy = false → s₂.busy = false →
    s₁.buf = s₂.buf → s₁.settleCycles = s₂.settleCycles → s₁.inputs = s₂.inputs → s₁.cycle = s₂.cycle →
    s₁.trace = s₂.trace → s₁.cmdFire = true → step s₁ = step s₂

/-- A reserved cmd_op, accepted, ends in the cycle of its acceptance with BAD_OP: op keeps it, the acceptance effects
run (every register of R155 at its value there, buf unchanged), and no interface but the command interface moves
anything (R96, R278). -/
def Obligations.ReservedSelectEndsWithBadOp : Prop :=
  ∀ s : State, s.cmdFire = true → s.legal = true → 9 ≤ s.now.cmdOp.toNat →
    step s = .next (State.tick
      { s with
        ctrl := .done, op := s.now.cmdOp, errCode := .badOp, cdoneActive := false, verifyOk := false, addr := 0#32,
        addrCarry := false, remaining := 0#16, chunkLen := 0#9, bufIdx := 0#9, txIdx := 0#3, rxCnt := 0#9,
        eoi := false, rspLen := 0#9, rspB0 := 0#8, devCrc := 0#32, crc := 0xFFFFFFFF#32, settleCnt := 0 }
      [.cmd s.now.cmdOp s.now.cmdCount]) ∧
    ∀ t, step s = .next t → t.ctrl = .done ∧ t.op = s.now.cmdOp ∧ t.errCode.code = 6#3 ∧
      (∀ k, Memory.read t.buf k = Memory.read s.buf k)

/-- A register outside its legal range is stuck: outside reset no step gives a next state (R54). -/
def Obligations.IllegalRegistersAreStuck : Prop :=
  ∀ s : State, s.now.rst = false →
    (6 ≤ s.txIdx.toNat ∨ 257 ≤ s.chunkLen.toNat ∨ 257 ≤ s.bufIdx.toNat ∨ 257 ≤ s.rspLen.toNat) →
    step s = .fault .unreachableRegister

/-! ## Acceptance -/

/-- An accepted status command starts its round trip: op takes the command's select, every other register of R155
takes its value there, buf keeps its contents, and TX_OP follows (R95, R154, R155). -/
def Obligations.StatusCommandAccepted : Prop :=
  ∀ (i : Instr) (sel : BitVec 4) (s : State),
    (i, sel) ∈ [(.fwver, 0#4), (.halt, 1#4), (.start, 2#4), (.cdone, 3#4), (.erase, 4#4), (.serial, 5#4)] →
    s.cmdFire = true → s.legal = true →
    exec i s = .next (State.tick
      { s with
        ctrl := .txOp, op := sel, errCode := .none, cdoneActive := false, verifyOk := false, addr := 0#32,
        addrCarry := false, remaining := 0#16, chunkLen := 0#9, bufIdx := 0#9, txIdx := 0#3, rxCnt := 0#9,
        eoi := false, rspLen := 0#9, rspB0 := 0#8, devCrc := 0#32, crc := 0xFFFFFFFF#32, settleCnt := 0 }
      [.cmd s.now.cmdOp s.now.cmdCount])

/-- An accepted READ with count 0 ends at once with success and sends nothing; with any other count it loads the
count and a first chunk of min(count, 256) bytes at address 0 and goes to TX_OP; every other register of R155 takes its
value there (R154, R155, R190, R191). -/
def Obligations.ReadAccepted : Prop :=
  ∀ (a : Word) (n : Len) (s : State), s.cmdFire = true → s.legal = true →
    (n = 0#16 →
      exec (.read a n) s = .next (State.tick
      { s with
        ctrl := .done, op := 6#4, errCode := .none, cdoneActive := false, verifyOk := false, addr := 0#32,
        addrCarry := false, remaining := 0#16, chunkLen := 0#9, bufIdx := 0#9, txIdx := 0#3, rxCnt := 0#9,
        eoi := false, rspLen := 0#9, rspB0 := 0#8, devCrc := 0#32, crc := 0xFFFFFFFF#32, settleCnt := 0 }
      [.cmd s.now.cmdOp s.now.cmdCount])) ∧
    (n ≠ 0#16 →
      exec (.read a n) s = .next (State.tick
      { s with
        ctrl := .txOp, op := 6#4, errCode := .none, cdoneActive := false, verifyOk := false, addr := 0#32,
        addrCarry := false, remaining := n, chunkLen := BitVec.ofNat 9 (min n.toNat 256), bufIdx := 0#9, txIdx := 0#3, rxCnt := 0#9,
        eoi := false, rspLen := 0#9, rspB0 := 0#8, devCrc := 0#32, crc := 0xFFFFFFFF#32, settleCnt := 0 }
      [.cmd s.now.cmdOp s.now.cmdCount]))

/-- An accepted WRITE starts to fill its first chunk; an accepted VERIFY loads its count and starts the CRC over the
local image; every other register of R155 takes its value there (R154, R155, R202). -/
def Obligations.WriteAndVerifyAccepted : Prop :=
  ∀ (a : Word) (n : Len) (d : List Byte) (s : State), s.cmdFire = true → s.legal = true →
    exec (.write a n d) s = .next (State.tick
      { s with
        ctrl := .fill, op := 7#4, errCode := .none, cdoneActive := false, verifyOk := false, addr := 0#32,
        addrCarry := false, remaining := 0#16, chunkLen := 0#9, bufIdx := 0#9, txIdx := 0#3, rxCnt := 0#9,
        eoi := false, rspLen := 0#9, rspB0 := 0#8, devCrc := 0#32, crc := 0xFFFFFFFF#32, settleCnt := 0 }
      [.cmd s.now.cmdOp s.now.cmdCount]) ∧
    exec (.verify a n) s = .next (State.tick
      { s with
        ctrl := .crcRun, op := 8#4, errCode := .none, cdoneActive := false, verifyOk := false, addr := 0#32,
        addrCarry := false, remaining := n, chunkLen := 0#9, bufIdx := 0#9, txIdx := 0#3, rxCnt := 0#9,
        eoi := false, rspLen := 0#9, rspB0 := 0#8, devCrc := 0#32, crc := 0xFFFFFFFF#32, settleCnt := 0 }
      [.cmd s.now.cmdOp s.now.cmdCount])

/-! ## Errors and waits -/

/-- In a cycle whose state samples an error, the highest-priority one is raised, only err_code and state change, and
no byte moves, whatever transfer was offered (R153, R276, R280). -/
def Obligations.SampledErrorRaisesAndMovesNothing : Prop :=
  ∀ (i : Instr) (s : State) (e : ErrKind), s.Runs i.command → s.sampledErr i.command = some e →
    exec i s = .next ((s.raise e).tick [])

/-- Which error a state samples: ch_err in TX_OP, TX_HDR, TX_DATA, RX_LEN and RX_PAY; snk_err in RX_PAY of READ,
below ch_err; src_err in FILL and CRC_RUN; none in IDLE, DONE, SETTLE and CHECK (R152, R280). -/
def Obligations.SampledErrorsByState : Prop :=
  ∀ (s : State) (c : Command),
    (s.sampledErr c = some .transport ↔
      s.now.chErr = true ∧ s.ctrl ∈ [.txOp, .txHdr, .txData, .rxLen, .rxPay]) ∧
    (s.sampledErr c = some .localIo ↔
      (s.ctrl ∈ [.fill, .crcRun] ∧ s.now.srcErr = true) ∨
        (s.ctrl = .rxPay ∧ c = .read ∧ s.now.snkErr = true ∧ s.now.chErr = false)) ∧
    (s.ctrl ∈ [.idle, .done, .settle, .check] → s.sampledErr c = none)

/-- Every state that waits on a handshake waits: with no error sampled and no transfer, every register holds
(R160, R185). -/
def Obligations.WaitsHoldEveryRegister : Prop :=
  ∀ (i : Instr) (s : State), s.Runs i.command → s.sampledErr i.command = none →
    ((s.ctrl ∈ [.txOp, .txHdr, .txData] ∧ s.now.txReady = false) ∨
      (s.ctrl ∈ [.rxLen, .rxPay] ∧ s.now.rxValid = false) ∨
      (s.ctrl = .rxPay ∧ i.command = .read ∧ s.now.snkReady = false) ∨
      (s.ctrl = .rxPay ∧ i.command ∈ [.fwver, .serial] ∧ s.now.resReady = false) ∨
      (s.ctrl ∈ [.fill, .crcRun] ∧ s.now.srcValid = false)) →
    exec i s = .next (s.tick [])

/-- Each error code is set only by its own rule: where a step changes err_code, or accepts a command, the cycle met
that rule's condition. TRANSPORT: ch_err in a TX or RX state. PROTOCOL: a length byte the command does not accept, or in
CHECK a wrong marker byte. MISMATCH: unequal digests in CHECK of VERIFY. LOCAL_IO: src_err in FILL of WRITE or CRC_RUN
of VERIFY, or snk_err without ch_err in RX_PAY of READ. ADDR_OVERFLOW: addr_carry set in FILL of WRITE, with a token
taken that makes a non-empty chunk ready, the 256th byte or end of input after at least one byte. BAD_OP: an accepted
reserved cmd_op (R272 to R275, R277, R278). -/
def Obligations.ErrorCodesComeFromTheirRules : Prop :=
  ∀ (s t : State), step s = .next t → (t.errCode ≠ s.errCode ∨ s.cmdFire = true) →
    (t.errCode = .transport → s.now.chErr = true ∧ s.ctrl ∈ [.txOp, .txHdr, .txData, .rxLen, .rxPay]) ∧
    (t.errCode = .protocol →
      (s.ctrl = .rxLen ∧ s.now.chErr = false ∧ s.now.rxValid = true ∧
        ((s.command ∈ [some .halt, some .start, some .cdone, some .erase, some .write] ∧ s.now.rxData.toNat ≠ 1) ∨
          (s.command = some .verify ∧ s.now.rxData.toNat ≠ 4) ∨
          (s.command = some .read ∧ s.now.rxData.toNat ≠ s.chunkLen.toNat % 256))) ∨
      (s.ctrl = .check ∧
        ((s.command = some .halt ∧ s.rspB0.toNat ≠ 0x52) ∨ (s.command = some .start ∧ s.rspB0.toNat ≠ 0x72) ∨
          (s.command = some .cdone ∧ s.rspB0.toNat ∉ [0x63, 0x43]) ∨
          (s.command ∈ [some .erase, some .write] ∧ s.rspB0.toNat ≠ 0x4F)))) ∧
    (t.errCode = .mismatch →
      s.ctrl = .check ∧ s.command = some .verify ∧ s.devCrc ≠ s.crc ^^^ 0xFFFFFFFF#32) ∧
    (t.errCode = .localIo →
      (s.ctrl = .fill ∧ s.command = some .write ∧ s.now.srcErr = true) ∨
        (s.ctrl = .crcRun ∧ s.command = some .verify ∧ s.now.srcErr = true) ∨
        (s.ctrl = .rxPay ∧ s.command = some .read ∧ s.now.snkErr = true ∧ s.now.chErr = false)) ∧
    (t.errCode = .addrOverflow →
      s.ctrl = .fill ∧ s.command = some .write ∧ s.addrCarry = true ∧ s.now.srcErr = false ∧
        s.srcFire .write = true ∧ s.now.srcValid = true ∧
        ((s.now.srcEoi = false ∧ s.bufIdx.toNat + 1 = 256) ∨ (s.now.srcEoi = true ∧ 0 < s.bufIdx.toNat))) ∧
    (t.errCode = .badOp → s.cmdFire = true ∧ 9 ≤ s.now.cmdOp.toNat)

/-- The only transitions of the controller outside reset (R150). -/
def Obligations.OnlyTheListedTransitions : Prop :=
  ∀ s t : State, s.now.rst = false → step s = .next t →
    t.ctrl ∈
      (match s.ctrl with
        | .idle => [.idle, .txOp, .fill, .crcRun, .done]
        | .done => [.txOp, .fill, .crcRun, .done]
        | .txOp => [.txOp, .rxLen, .txHdr, .done]
        | .txHdr => [.txHdr, .txData, .rxLen, .done]
        | .txData => [.txData, .settle, .done]
        | .settle => [.settle, .rxLen]
        | .rxLen => [.rxLen, .rxPay, .check, .done]
        | .rxPay => [.rxPay, .check, .done]
        | .check => [.txOp, .fill, .done]
        | .fill => [.fill, .txOp, .done]
        | .crcRun => [.crcRun, .txOp, .done] : List Ctrl)

/-! ## The frame encoder -/

/-- TX_OP sends the command's opcode byte when the adapter takes it; a format F0 command then waits for its response
and the others send their header (R113). -/
def Obligations.OpcodeByteSent : Prop :=
  ∀ (i : Instr) (s : State), s.now.rst = false → s.legal = true → s.ctrl = .txOp → s.now.chErr = false →
    s.now.txReady = true →
    exec i s = .next (State.tick
      (if i.command.format = .f0 then { s with ctrl := .rxLen } else { s with txIdx := 0#3, ctrl := .txHdr })
      [.tx i.command.opcode])

/-- TX_HDR sends byte tx_idx of the four address bytes and two length bytes, most significant first, and after the
sixth goes on to TX_DATA for WRITE and RX_LEN otherwise; the length field is the caller's count for VERIFY and the
chunk length for READ and WRITE (R112, R114). -/
def Obligations.HeaderByteSent : Prop :=
  ∀ (i : Instr) (s : State), i.command ∈ [.read, .write, .verify] → s.now.rst = false → s.legal = true →
    s.ctrl = .txHdr → s.now.chErr = false → s.now.txReady = true →
    let len : Nat := if i.command = .verify then s.remaining.toNat else s.chunkLen.toNat
    ∃ b : Byte,
      [s.addr.toNat / 2 ^ 24, s.addr.toNat / 2 ^ 16 % 256, s.addr.toNat / 2 ^ 8 % 256, s.addr.toNat % 256,
        len / 2 ^ 8, len % 256][s.txIdx.toNat]? = some b.toNat ∧
      exec i s = .next (State.tick
        (if s.txIdx = 5#3 then
          (if i.command = .write then { s with bufIdx := 0#9, ctrl := .txData } else { s with ctrl := .rxLen })
        else { s with txIdx := s.txIdx + 1#3 })
        [.tx b])

/-- TX_DATA sends the buffered byte at buf_idx; after the last byte of the chunk it loads the settle counter and
enters SETTLE (R115). -/
def Obligations.DataByteSent : Prop :=
  ∀ (a : Word) (n : Len) (d : List Byte) (s : State), s.now.rst = false → s.legal = true → s.ctrl = .txData →
    s.bufIdx.toNat ≤ 255 → s.now.chErr = false → s.now.txReady = true →
    exec (.write a n d) s = .next (State.tick
      (if s.bufIdx.toNat + 1 = s.chunkLen.toNat then { s with settleCnt := s.settleCycles, ctrl := .settle }
        else { s with bufIdx := s.bufIdx + 1#9 })
      [.tx (Memory.read s.buf s.bufIdx.toNat)])

/-- From TX_OP, with the adapter taking a byte in every cycle, the CORE sends exactly the bytes of its frame's
encoding, in order and nothing else, and then waits for the response, or for WRITE enters SETTLE
(R110, R111, R116, R118). -/
def Obligations.FrameSentIsItsEncoding : Prop :=
  ∀ (s : State) (c : Command) (script rest : List Inputs),
    s.ctrl = .txOp → s.command = some c → s.legal = true → (c = .write → 1 ≤ s.chunkLen.toNat) →
    s.inputs = script ++ rest → script.length = (encode (s.frame c)).length →
    (∀ n ∈ script, n.rst = false ∧ n.chErr = false ∧ n.txReady = true) →
    ∃ t, Sys2Proof.core.run script.length s = .next t ∧
      t.trace = s.trace ++ (encode (s.frame c)).map Transfer.tx ∧
      t.ctrl = (if c = .write then .settle else .rxLen) ∧ t.inputs = rest

/-- A frame's fields stand still while it is sent: in the TX states, outside reset, no cycle writes op, addr,
remaining, chunk_len or buf, so the frame in hand stays the same one (R117). -/
def Obligations.FrameFieldsStandStill : Prop :=
  ∀ (i : Instr) (s t : State), s.ctrl ∈ [.txOp, .txHdr, .txData] → s.now.rst = false → exec i s = .next t →
    t.op = s.op ∧ t.addr = s.addr ∧ t.remaining = s.remaining ∧ t.chunkLen = s.chunkLen ∧ t.buf = s.buf ∧
      ∀ c, t.frame c = s.frame c

/-! ## The response parser -/

/-- The length bytes each command accepts: any for FWVER and SERIAL, 1 for HALT, START, CDONE, ERASE and WRITE,
chunk_len mod 256 for READ, 4 for VERIFY; and the payload count is the length byte, but chunk_len for READ
(R89, R94, R132). -/
def Obligations.AcceptedLengthsAndPayloadCounts : Prop :=
  ∀ (s : State) (k : Byte), s.legal = true →
    (∀ c ∈ [Command.fwver, .serial], s.lenOk c k = true) ∧
    (∀ c ∈ [Command.halt, .start, .cdone, .erase, .write], (s.lenOk c k = true ↔ k.toNat = 1)) ∧
    (s.lenOk .read k = true ↔ k.toNat = s.chunkLen.toNat % 256) ∧
    (s.lenOk .verify k = true ↔ k.toNat = 4) ∧
    (s.pcount .read k = s.chunkLen) ∧
    (∀ c, c ≠ .read → (s.pcount c k).toNat = k.toNat)

/-- RX_LEN takes the length byte: accepted, the payload count is recorded and RX_PAY or, for a count of 0, CHECK
follows; rejected, the byte is recorded and PROTOCOL raised at once, so no payload byte is taken (R131). -/
def Obligations.LengthByteTaken : Prop :=
  ∀ (i : Instr) (s : State), s.now.rst = false → s.legal = true → s.ctrl = .rxLen → s.now.chErr = false →
    s.now.rxValid = true →
    exec i s = .next (State.tick
      (if s.lenOk i.command s.now.rxData = true then
        { s with
          rspLen := s.pcount i.command s.now.rxData
          rxCnt := 0#9
          ctrl := if (s.pcount i.command s.now.rxData).toNat = 0 then .check else .rxPay }
      else { s with rspLen := s.now.rxData.setWidth 9, errCode := .protocol, ctrl := .done })
      [.rx s.now.rxData])

/-- RX_PAY takes a payload byte when its destination does: READ passes it to the sink and FWVER and SERIAL to the
result stream in the same cycle, the others keep it inside; the first byte goes to rsp_b0, VERIFY shifts it into
dev_crc, and the last byte leads to CHECK (R133, R134, R136). -/
def Obligations.PayloadByteTaken : Prop :=
  ∀ (i : Instr) (s : State), s.now.rst = false → s.legal = true → s.ctrl = .rxPay → s.now.chErr = false →
    s.now.rxValid = true →
    (i.command = .read → s.now.snkErr = false ∧ s.now.snkReady = true) →
    (i.command ∈ [.fwver, .serial] → s.now.resReady = true) →
    ∃ t, exec i s = .next t ∧
      t = State.tick
        { s with
          rspB0 := if s.rxCnt = 0#9 then s.now.rxData else s.rspB0
          devCrc := t.devCrc
          rxCnt := if s.rxCnt.toNat + 1 = s.rspLen.toNat then s.rxCnt else s.rxCnt + 1#9
          ctrl := if s.rxCnt.toNat + 1 = s.rspLen.toNat then .check else .rxPay }
        (.rx s.now.rxData ::
          (if i.command = .read then [.snk s.now.rxData]
            else if i.command ∈ [.fwver, .serial] then [.res s.now.rxData] else [])) ∧
      t.devCrc.toNat =
        if i.command = .verify then s.devCrc.toNat % 2 ^ 24 * 256 + s.now.rxData.toNat else s.devCrc.toNat

/-- Four payload bytes of a VERIFY response assemble into dev_crc most significant byte first, and the check follows
(R88, R136). -/
def Obligations.DigestAssembledBigEndian : Prop :=
  ∀ (s : State) (n₀ n₁ n₂ n₃ : Inputs) (rest : List Inputs),
    s.ctrl = .rxPay → s.command = some .verify → s.legal = true → s.rxCnt = 0#9 → s.rspLen = 4#9 →
    s.inputs = n₀ :: n₁ :: n₂ :: n₃ :: rest →
    (∀ n ∈ [n₀, n₁, n₂, n₃], n.rst = false ∧ n.chErr = false ∧ n.rxValid = true) →
    ∃ t, Sys2Proof.core.run 4 s = .next t ∧ t.ctrl = .check ∧ t.rspB0 = n₀.rxData ∧
      t.devCrc.toNat = n₀.rxData.toNat * 2 ^ 24 + n₁.rxData.toNat * 2 ^ 16 + n₂.rxData.toNat * 2 ^ 8
        + n₃.rxData.toNat

/-- FWVER and SERIAL, accepted and answered with length byte k and k arbitrary bytes, put exactly those k bytes on the
result stream in order and end with err_code 0 and rsp_len = k (R139, R221, R226). -/
def Obligations.OpaquePayloadReachesResultStream : Prop :=
  ∀ (s : State) (c : Command) (n₀ n₁ n₂ n₃ : Inputs) (script rest : List Inputs),
    c ∈ [Command.fwver, .serial] → s.busy = false → s.legal = true →
    s.inputs = n₀ :: n₁ :: n₂ :: (script ++ n₃ :: rest) →
    (∀ n ∈ n₀ :: n₁ :: n₂ :: n₃ :: script, n.rst = false ∧ n.chErr = false) →
    n₀.cmdValid = true → n₀.cmdOp = c.select → n₁.txReady = true →
    n₂.rxValid = true → n₂.rxData.toNat = script.length →
    (∀ n ∈ script, n.rxValid = true ∧ n.resReady = true) →
    ∃ t, Sys2Proof.core.run (script.length + 4) s = .next t ∧ t.ctrl = .done ∧ t.errCode.code = 0#3 ∧
      t.rspLen.toNat = script.length ∧
      t.trace = s.trace ++ [.cmd n₀.cmdOp n₀.cmdCount, .tx c.opcode, .rx n₂.rxData]
        ++ script.flatMap fun n => [.rx n.rxData, .res n.rxData]

/-- HALT, START, CDONE and ERASE, accepted and answered with one byte p, end in five cycles: with success for the
command's marker and with PROTOCOL for any other byte, having sent the one opcode byte (R220, R222 to R225). -/
def Obligations.MarkerCommandRoundTrip : Prop :=
  ∀ (s : State) (c : Command) (n₀ n₁ n₂ n₃ n₄ : Inputs) (rest : List Inputs),
    c ∈ [Command.halt, .start, .cdone, .erase] → s.busy = false → s.legal = true →
    s.inputs = n₀ :: n₁ :: n₂ :: n₃ :: n₄ :: rest →
    (∀ n ∈ [n₀, n₁, n₂, n₃, n₄], n.rst = false ∧ n.chErr = false) →
    n₀.cmdValid = true → n₀.cmdOp = c.select → n₁.txReady = true →
    n₂.rxValid = true → n₂.rxData = 1#8 → n₃.rxValid = true →
    ∃ t, Sys2Proof.core.run 5 s = .next t ∧ t.ctrl = .done ∧ t.rspB0 = n₃.rxData ∧
      t.trace = s.trace ++ [.cmd n₀.cmdOp n₀.cmdCount, .tx c.opcode, .rx 1#8, .rx n₃.rxData] ∧
      let markers : List Nat :=
        if c = .halt then [0x52] else if c = .start then [0x72] else if c = .erase then [0x4F] else [0x63, 0x43]
      (n₃.rxData.toNat ∈ markers → t.errCode.code = 0#3) ∧
      (n₃.rxData.toNat ∉ markers → t.errCode.code = 2#3) ∧
      t.cdoneActive = (c == .cdone && n₃.rxData == 0x43#8)

/-! ## The controller's own states, the checks and the sequencer -/

/-- SETTLE lasts exactly as many cycles as its counter says, moves nothing and samples no error, and is followed by
RX_LEN with the counter at 0 (R156). -/
def Obligations.SettleLastsItsCount : Prop :=
  ∀ (s : State) (script rest : List Inputs),
    s.ctrl = .settle → s.command = some .write → s.legal = true → s.inputs = script ++ rest →
    (∀ n ∈ script, n.rst = false) → script.length ≤ s.settleCnt → 1 ≤ script.length →
    Sys2Proof.core.run script.length s = .next
      { s with
        ctrl := if script.length = s.settleCnt then .rxLen else .settle
        settleCnt := s.settleCnt - script.length
        inputs := rest
        cycle := s.cycle + script.length }

/-- The check of FWVER and SERIAL ends the operation with success whatever the payload was (R221, R226). -/
def Obligations.OpaqueResponsesSucceed : Prop :=
  ∀ (i : Instr) (s : State), i ∈ [.fwver, .serial] → s.now.rst = false → s.legal = true → s.ctrl = .check →
    exec i s = .next (({ s with ctrl := .done } : State).tick [])

/-- The checks of HALT, START and ERASE: success for exactly 'R', 'r' and 'O', PROTOCOL for every other byte, the
other commands' markers included (R222, R223, R225). -/
def Obligations.MarkerChecks : Prop :=
  ∀ (i : Instr) (marker : Nat) (s : State), (i, marker) ∈ [(.halt, 0x52), (.start, 0x72), (.erase, 0x4F)] →
    s.now.rst = false → s.legal = true → s.ctrl = .check →
    exec i s = .next (State.tick
      (if s.rspB0.toNat = marker then { s with ctrl := .done }
        else { s with errCode := .protocol, ctrl := .done }) [])

/-- The check of CDONE records active for 'C' and inactive for 'c', and raises PROTOCOL for any other byte (R224). -/
def Obligations.CdoneCheck : Prop :=
  ∀ s : State, s.now.rst = false → s.legal = true → s.ctrl = .check →
    exec .cdone s = .next (State.tick
      (if s.rspB0.toNat = 0x43 then { s with cdoneActive := true, ctrl := .done }
        else if s.rspB0.toNat = 0x63 then { s with cdoneActive := false, ctrl := .done }
        else { s with errCode := .protocol, ctrl := .done }) [])

/-- The check of READ advances the address and decrements the remaining count by the chunk length, and ends with
success when nothing remains or sends the next chunk of min(remaining, 256) bytes (R192, R193, R240). -/
def Obligations.ReadCheckAdvancesOrEnds : Prop :=
  ∀ (a : Word) (n : Len) (s : State), s.now.rst = false → s.legal = true → s.ctrl = .check →
    s.chunkLen.toNat ≤ s.remaining.toNat → s.addr.toNat + s.chunkLen.toNat < 2 ^ 32 →
    ∃ t, exec (.read a n) s = .next t ∧
      t.addr.toNat = s.addr.toNat + s.chunkLen.toNat ∧
      t.remaining.toNat = s.remaining.toNat - s.chunkLen.toNat ∧
      (t.remaining.toNat = 0 → t.ctrl = .done ∧ t.chunkLen = s.chunkLen) ∧
      (t.remaining.toNat ≠ 0 → t.ctrl = .txOp ∧ t.chunkLen.toNat = min t.remaining.toNat 256) ∧
      t = State.tick
        { s with addr := t.addr, remaining := t.remaining, ctrl := t.ctrl, chunkLen := t.chunkLen } []

/-- The check of WRITE: a byte other than 'O' raises PROTOCOL and leaves the address; on 'O' the address advances
modulo 2^32 with addr_carry set by the carry, and the operation ends after end-of-input or fills the next chunk
(R192, R251). -/
def Obligations.WriteCheckAdvancesOrEnds : Prop :=
  ∀ (a : Word) (n : Len) (d : List Byte) (s : State), s.now.rst = false → s.legal = true → s.ctrl = .check →
    (s.rspB0 ≠ 0x4F#8 →
      exec (.write a n d) s = .next (({ s with errCode := .protocol, ctrl := .done } : State).tick [])) ∧
    (s.rspB0 = 0x4F#8 →
      ∃ t, exec (.write a n d) s = .next t ∧
        t.addr.toNat = (s.addr.toNat + s.chunkLen.toNat) % 2 ^ 32 ∧
        (t.addrCarry = true ↔ s.addrCarry = true ∨ 2 ^ 32 ≤ s.addr.toNat + s.chunkLen.toNat) ∧
        t = State.tick
          (if s.eoi = true then { s with addr := t.addr, addrCarry := t.addrCarry, ctrl := .done }
            else { s with addr := t.addr, addrCarry := t.addrCarry, bufIdx := 0#9, ctrl := .fill }) [])

/-- The check of VERIFY: equal digests set verify_ok and end with success, unequal ones raise MISMATCH and leave
verify_ok (R203, R260). -/
def Obligations.VerifyCheckComparesDigests : Prop :=
  ∀ (a : Word) (n : Len) (s : State), s.now.rst = false → s.legal = true → s.ctrl = .check →
    exec (.verify a n) s = .next (State.tick
      (if s.devCrc = s.crc ^^^ 0xFFFFFFFF#32 then { s with verifyOk := true, ctrl := .done }
        else { s with errCode := .mismatch, ctrl := .done }) [])

/-- While a READ runs, what it has read and what remains keep the same exact sum from cycle to cycle, so at every
entry to TX_OP addr + remaining is the count it was accepted with (R194). -/
def Obligations.ReadAddressPlusRemainingConstant : Prop :=
  ∀ (a : Word) (n : Len) (s t : State), s.Inv → s.busy = true → s.command = some .read → s.now.rst = false →
    exec (.read a n) s = .next t →
    t.addr.toNat + t.remaining.toNat = s.addr.toNat + s.remaining.toNat

/-! ## WRITE's buffer and VERIFY's CRC -/

/-- FILL stores a data byte at buf_idx, and at that index alone; the 256th byte makes a full chunk ready
(R250). -/
def Obligations.FillStoresDataByte : Prop :=
  ∀ (a : Word) (n : Len) (d : List Byte) (s : State), s.now.rst = false → s.legal = true → s.ctrl = .fill →
    s.bufIdx.toNat ≤ 255 → Memory.wf s.buf = true → s.now.srcErr = false → s.now.srcValid = true →
    s.now.srcEoi = false →
    ∃ t, exec (.write a n d) s = .next t ∧
      Memory.read t.buf s.bufIdx.toNat = s.now.srcData ∧
      (∀ k, k ≠ s.bufIdx.toNat → Memory.read t.buf k = Memory.read s.buf k) ∧
      t = State.tick
        (if s.bufIdx.toNat ≠ 255 then { s with buf := t.buf, bufIdx := s.bufIdx + 1#9 }
          else if s.addrCarry = true then { s with buf := t.buf, errCode := .addrOverflow, ctrl := .done }
          else { s with buf := t.buf, chunkLen := 256#9, ctrl := .txOp })
        [.src s.now.srcData]

/-- FILL at end of input: an empty chunk ends the WRITE with success and sends nothing; a non-empty one is sent, or
refused with ADDR_OVERFLOW once the address has carried (R195, R250, R277). -/
def Obligations.FillEndsInput : Prop :=
  ∀ (a : Word) (n : Len) (d : List Byte) (s : State), s.now.rst = false → s.legal = true → s.ctrl = .fill →
    s.now.srcErr = false → s.now.srcValid = true → s.now.srcEoi = true →
    exec (.write a n d) s = .next (State.tick
      (if s.bufIdx = 0#9 then { s with eoi := true, ctrl := .done }
        else if s.addrCarry = true then { s with eoi := true, errCode := .addrOverflow, ctrl := .done }
        else { s with eoi := true, chunkLen := s.bufIdx, ctrl := .txOp })
      [.srcEoi])

/-- CRC_RUN consumes a whole image: after its bytes and the end-of-input token crc is the fold of crc_step over the
bytes, every token was taken in order, and the frame comes next (R204, R206). -/
def Obligations.CrcRunConsumesTheImage : Prop :=
  ∀ (s : State) (script rest : List Inputs) (last : Inputs),
    s.ctrl = .crcRun → s.command = some .verify → s.legal = true → s.inputs = script ++ last :: rest →
    (∀ n ∈ script, n.rst = false ∧ n.srcErr = false ∧ n.srcValid = true ∧ n.srcEoi = false) →
    last.rst = false → last.srcErr = false → last.srcValid = true → last.srcEoi = true →
    Sys2Proof.core.run (script.length + 1) s = .next
      { s with
        ctrl := .txOp
        crc := (script.map Inputs.srcData).foldl crcStep s.crc
        inputs := rest
        cycle := s.cycle + (script.length + 1)
        trace := s.trace ++ script.map (fun n => .src n.srcData) ++ [.srcEoi] }

/-- The worked example of R205: the states of crc after each byte of "123456789", and its digest. -/
def Obligations.CrcWorkedExample : Prop :=
  [0x31#8, 0x32#8, 0x33#8, 0x34#8, 0x35#8, 0x36#8, 0x37#8, 0x38#8, 0x39#8].scanl crcStep crcInit =
    [0xFFFFFFFF#32, 0x7C231048#32, 0xB0ACBB32#32, 0x77B79C2D#32, 0x641C1F5C#32, 0x340AC5E3#32, 0xF68D2C9E#32,
      0xAFFC9660#32, 0x651F2550#32, 0x340BC6D9#32] ∧
  (0x340BC6D9#32 : Word) ^^^ 0xFFFFFFFF#32 = 0xCBF43926#32

/-- The bit step is the reflected form of division by the polynomial 0x04C11DB7: on the reversed register it shifts
left and subtracts the polynomial when a 1 leaves (R200, R201). -/
def Obligations.CrcBitIsReflectedDivision : Prop :=
  ∀ c : Word,
    (crcBit c).reverse =
      if c.reverse.msb then (c.reverse <<< 1) ^^^ 0x04C11DB7#32 else c.reverse <<< 1

/-! ## Whole operations of the flash commands -/

/-- READ of 1 to 256 bytes, with every handshake ready at once, ends with success in count + 10 cycles: it sends the
one frame of its chunk at address 0, passes the count payload bytes to the sink in order, and leaves addr = count and
nothing remaining (R240, R313, R314). -/
def Obligations.ReadOfOneChunkCompletes : Prop :=
  ∀ (s : State) (n₀ nk nc : Inputs) (tx pay rest : List Inputs),
    s.busy = false → s.legal = true →
    s.inputs = n₀ :: (tx ++ nk :: (pay ++ nc :: rest)) →
    (∀ n ∈ n₀ :: nk :: nc :: (tx ++ pay), n.rst = false ∧ n.chErr = false ∧ n.snkErr = false) →
    n₀.cmdValid = true → n₀.cmdOp = 6#4 →
    1 ≤ n₀.cmdCount.toNat → n₀.cmdCount.toNat ≤ 256 →
    tx.length = 7 → (∀ n ∈ tx, n.txReady = true) →
    nk.rxValid = true → nk.rxData.toNat = n₀.cmdCount.toNat % 256 →
    pay.length = n₀.cmdCount.toNat → (∀ n ∈ pay, n.rxValid = true ∧ n.snkReady = true) →
    ∃ t, Sys2Proof.core.run (n₀.cmdCount.toNat + 10) s = .next t ∧ t.ctrl = .done ∧ t.errCode.code = 0#3 ∧
      t.addr.toNat = n₀.cmdCount.toNat ∧ t.remaining = 0#16 ∧ t.inputs = rest ∧
      t.trace = s.trace ++ [.cmd n₀.cmdOp n₀.cmdCount] ++ (encode (.read 0#32 n₀.cmdCount)).map Transfer.tx
        ++ [.rx nk.rxData] ++ pay.flatMap fun n => [.rx n.rxData, .snk n.rxData]

/-- WRITE of 1 to 255 bytes and end of input, with every handshake ready at once, takes 2n + SETTLE_CYCLES + 12 cycles:
it sends the one frame with exactly the source's bytes at address 0, and ends with success and addr = n for the answer
'O', and with PROTOCOL and addr = 0 for any other byte (R251, R313, R314). -/
def Obligations.WriteOfOneChunkCompletes : Prop :=
  ∀ (s : State) (n₀ ne nk np nc : Inputs) (img tx quiet rest : List Inputs),
    s.busy = false → s.legal = true → Memory.wf s.buf = true →
    s.inputs = n₀ :: (img ++ ne :: (tx ++ (quiet ++ nk :: np :: nc :: rest))) →
    (∀ n ∈ n₀ :: ne :: nk :: np :: nc :: (img ++ tx), n.rst = false ∧ n.chErr = false ∧ n.srcErr = false) →
    n₀.cmdValid = true → n₀.cmdOp = 7#4 →
    1 ≤ img.length → img.length ≤ 255 →
    (∀ n ∈ img, n.srcValid = true ∧ n.srcEoi = false) → ne.srcValid = true → ne.srcEoi = true →
    tx.length = img.length + 7 → (∀ n ∈ tx, n.txReady = true) →
    1 ≤ quiet.length → quiet.length = s.settleCycles → (∀ n ∈ quiet, n.rst = false) →
    nk.rxValid = true → nk.rxData = 1#8 → np.rxValid = true →
    ∃ t, Sys2Proof.core.run (2 * img.length + s.settleCycles + 12) s = .next t ∧ t.ctrl = .done ∧ t.eoi = true ∧
      (np.rxData = 0x4F#8 → t.errCode.code = 0#3 ∧ t.addr.toNat = img.length) ∧
      (np.rxData ≠ 0x4F#8 → t.errCode.code = 2#3 ∧ t.addr = 0#32) ∧ t.inputs = rest ∧
      t.trace = s.trace ++ [.cmd n₀.cmdOp n₀.cmdCount] ++ img.map (fun n => .src n.srcData) ++ [.srcEoi]
        ++ (encode (.write 0#32 (BitVec.ofNat 16 img.length) (img.map Inputs.srcData))).map Transfer.tx
        ++ [.rx 1#8, .rx np.rxData]

/-- VERIFY, with every handshake ready at once and a 4-byte answer, ends in (image length) + 15 cycles: verified exactly
when the answer, most significant byte first, is the digest of the whole image, and with MISMATCH otherwise; the frame
carries address 0 and the caller's count, whatever the image's length (R260, R261, R313, R314). -/
def Obligations.VerifyOfAnImageCompletes : Prop :=
  ∀ (s : State) (n₀ ne nk p₀ p₁ p₂ p₃ nc : Inputs) (img tx rest : List Inputs),
    s.busy = false → s.legal = true →
    s.inputs = n₀ :: (img ++ ne :: (tx ++ nk :: p₀ :: p₁ :: p₂ :: p₃ :: nc :: rest)) →
    (∀ n ∈ n₀ :: ne :: nk :: p₀ :: p₁ :: p₂ :: p₃ :: nc :: (img ++ tx),
      n.rst = false ∧ n.chErr = false ∧ n.srcErr = false) →
    n₀.cmdValid = true → n₀.cmdOp = 8#4 →
    (∀ n ∈ img, n.srcValid = true ∧ n.srcEoi = false) → ne.srcValid = true → ne.srcEoi = true →
    tx.length = 7 → (∀ n ∈ tx, n.txReady = true) →
    nk.rxValid = true → nk.rxData = 4#8 → (∀ n ∈ [p₀, p₁, p₂, p₃], n.rxValid = true) →
    let digest : Word := (img.map Inputs.srcData).foldl crcStep crcInit ^^^ 0xFFFFFFFF#32
    let answer : Nat := p₀.rxData.toNat * 2 ^ 24 + p₁.rxData.toNat * 2 ^ 16 + p₂.rxData.toNat * 2 ^ 8 + p₃.rxData.toNat
    ∃ t, Sys2Proof.core.run (img.length + 15) s = .next t ∧ t.ctrl = .done ∧
      t.devCrc.toNat = answer ∧ t.digest = digest ∧
      (answer = digest.toNat → t.verifyOk = true ∧ t.errCode.code = 0#3) ∧
      (answer ≠ digest.toNat → t.verifyOk = false ∧ t.errCode.code = 3#3) ∧ t.inputs = rest ∧
      t.trace = s.trace ++ [.cmd n₀.cmdOp n₀.cmdCount] ++ img.map (fun n => .src n.srcData) ++ [.srcEoi]
        ++ (encode (.verify 0#32 n₀.cmdCount)).map Transfer.tx
        ++ [.rx 4#8, .rx p₀.rxData, .rx p₁.rxData, .rx p₂.rxData, .rx p₃.rxData]

/-! ## The STATUS word -/

/-- The STATUS word: BUSY, DONE, ERR, CDONE, VOK and CARRY at their places, bits 15 to 8 always 0 (R49). -/
def Obligations.StatusWordFields : Prop :=
  ∀ s : State,
    s.status.getLsbD 0 = s.busy ∧ s.status.getLsbD 1 = s.isDone ∧ s.status.extractLsb' 2 3 = s.errCode.code ∧
    s.status.getLsbD 5 = s.cdoneActive ∧ s.status.getLsbD 6 = s.verifyOk ∧ s.status.getLsbD 7 = s.addrCarry ∧
    s.status.extractLsb' 8 8 = 0#8 ∧
    (s.busy = true ↔ s.ctrl ≠ .idle ∧ s.ctrl ≠ .done) ∧ (s.isDone = true ↔ s.ctrl = .done) ∧
    State.reset.status = 0x0000#16

/-! ## Frames: what an instruction leaves unchanged -/

/-- FWVER, HALT, START, CDONE, ERASE and SERIAL in a busy cycle outside reset write at most rsp_len, rx_cnt, rsp_b0,
err_code, state and, for CDONE, cdone_active; and in no cycle do they write a byte of the chunk buffer or the
parameter (R220, writer lists of R30 to R48). -/
def Obligations.StatusCommandFrame : Prop :=
  ∀ (i : Instr) (s t : State), i ∈ [.fwver, .halt, .start, .cdone, .erase, .serial] → exec i s = .next t →
    (∀ k, Memory.read t.buf k = Memory.read s.buf k) ∧ t.settleCycles = s.settleCycles ∧
    (s.now.rst = false → s.busy = true →
      t.op = s.op ∧ t.addr = s.addr ∧ t.addrCarry = s.addrCarry ∧ t.remaining = s.remaining ∧
      t.chunkLen = s.chunkLen ∧ t.bufIdx = s.bufIdx ∧ t.eoi = s.eoi ∧ t.txIdx = s.txIdx ∧ t.devCrc = s.devCrc ∧
      t.crc = s.crc ∧ t.settleCnt = s.settleCnt ∧ t.verifyOk = s.verifyOk ∧
      (i ≠ .cdone → t.cdoneActive = s.cdoneActive) ∧
      (s.ctrl ≠ .rxLen → t.rspLen = s.rspLen) ∧ (s.ctrl ≠ .rxPay → t.rspB0 = s.rspB0) ∧
      (s.ctrl ≠ .rxLen → s.ctrl ≠ .rxPay → t.rxCnt = s.rxCnt))

/-- READ in a busy cycle outside reset writes addr, addr_carry, remaining and chunk_len only in CHECK, and never op,
the buffer index, eoi, dev_crc, crc, settle_cnt or a flag of another command; it never writes the chunk buffer. -/
def Obligations.ReadFrame : Prop :=
  ∀ (a : Word) (n : Len) (s t : State), exec (.read a n) s = .next t →
    (∀ k, Memory.read t.buf k = Memory.read s.buf k) ∧ t.settleCycles = s.settleCycles ∧
    (s.now.rst = false → s.busy = true →
      t.op = s.op ∧ t.bufIdx = s.bufIdx ∧ t.eoi = s.eoi ∧ t.devCrc = s.devCrc ∧ t.crc = s.crc ∧
      t.settleCnt = s.settleCnt ∧ t.verifyOk = s.verifyOk ∧ t.cdoneActive = s.cdoneActive ∧
      (s.ctrl ≠ .check → t.addr = s.addr ∧ t.addrCarry = s.addrCarry ∧ t.remaining = s.remaining ∧
        t.chunkLen = s.chunkLen) ∧
      (s.ctrl ≠ .rxLen → t.rspLen = s.rspLen) ∧ (s.ctrl ≠ .rxPay → t.rspB0 = s.rspB0) ∧
      (s.ctrl ≠ .rxLen → s.ctrl ≠ .rxPay → t.rxCnt = s.rxCnt) ∧
      (s.ctrl ≠ .txOp → s.ctrl ≠ .txHdr → t.txIdx = s.txIdx))

/-- WRITE stores to the chunk buffer only in FILL, with a data token taken, and then only at buf_idx[7:0]: every other
byte of the buffer, and in every other cycle every byte, reads as before. In a busy cycle outside reset it leaves op,
remaining, dev_crc, crc and the flags of other commands, and addr and addr_carry outside CHECK (R250, R251). -/
def Obligations.WriteFrame : Prop :=
  ∀ (a : Word) (n : Len) (d : List Byte) (s t : State), exec (.write a n d) s = .next t →
    (∀ k, (k ≠ s.fillIndex ∨ s.ctrl ≠ .fill ∨ s.srcFire .write = false ∨ s.now.srcEoi = true) →
      Memory.read t.buf k = Memory.read s.buf k) ∧
    t.settleCycles = s.settleCycles ∧
    (s.now.rst = false → s.busy = true →
      t.op = s.op ∧ t.remaining = s.remaining ∧ t.devCrc = s.devCrc ∧ t.crc = s.crc ∧ t.verifyOk = s.verifyOk ∧
      t.cdoneActive = s.cdoneActive ∧
      (s.ctrl ≠ .check → t.addr = s.addr ∧ t.addrCarry = s.addrCarry) ∧
      (s.ctrl ≠ .fill → t.chunkLen = s.chunkLen ∧ t.eoi = s.eoi) ∧
      (s.ctrl ≠ .txData → s.ctrl ≠ .settle → t.settleCnt = s.settleCnt) ∧
      (s.ctrl ∉ [.txHdr, .txData, .check, .fill] → t.bufIdx = s.bufIdx) ∧
      (s.ctrl ≠ .rxLen → t.rspLen = s.rspLen) ∧ (s.ctrl ≠ .rxPay → t.rspB0 = s.rspB0) ∧
      (s.ctrl ≠ .rxLen → s.ctrl ≠ .rxPay → t.rxCnt = s.rxCnt) ∧
      (s.ctrl ≠ .txOp → s.ctrl ≠ .txHdr → t.txIdx = s.txIdx))

/-- VERIFY in a busy cycle outside reset leaves op, addr, addr_carry, remaining, chunk_len, the buffer index, eoi,
settle_cnt and cdone_active; it writes crc only in CRC_RUN, dev_crc only in RX_PAY and verify_ok only in CHECK, and
never the chunk buffer (R260, R262). -/
def Obligations.VerifyFrame : Prop :=
  ∀ (a : Word) (n : Len) (s t : State), exec (.verify a n) s = .next t →
    (∀ k, Memory.read t.buf k = Memory.read s.buf k) ∧ t.settleCycles = s.settleCycles ∧
    (s.now.rst = false → s.busy = true →
      t.op = s.op ∧ t.addr = s.addr ∧ t.addrCarry = s.addrCarry ∧ t.remaining = s.remaining ∧
      t.chunkLen = s.chunkLen ∧ t.bufIdx = s.bufIdx ∧ t.eoi = s.eoi ∧ t.settleCnt = s.settleCnt ∧
      t.cdoneActive = s.cdoneActive ∧
      (s.ctrl ≠ .crcRun → t.crc = s.crc) ∧ (s.ctrl ≠ .rxPay → t.devCrc = s.devCrc ∧ t.rspB0 = s.rspB0) ∧
      (s.ctrl ≠ .check → t.verifyOk = s.verifyOk) ∧ (s.ctrl ≠ .rxLen → t.rspLen = s.rspLen) ∧
      (s.ctrl ≠ .rxLen → s.ctrl ≠ .rxPay → t.rxCnt = s.rxCnt) ∧
      (s.ctrl ≠ .txOp → s.ctrl ≠ .txHdr → t.txIdx = s.txIdx))

/-! ## The invariant -/

/-- The invariant holds right after reset. -/
def Obligations.ResetMeetsInvariant : Prop :=
  State.reset.Inv

/-- Every step from a state that meets the invariant gives a state that meets it. -/
def Obligations.StepKeepsInvariant : Prop :=
  ∀ s t : State, s.Inv → step s = .next t → t.Inv

/-- From a state that meets the invariant no step stops: the CORE always has a next state (R164). -/
def Obligations.InvariantNeverStops : Prop :=
  ∀ s : State, s.Inv → ∃ t, step s = .next t

/-- Whenever a frame is being sent, it is one the rules allow: a chunk of 1 to 256 bytes at a multiple of 256, with
its data bytes counted by its length field, or address 0 for VERIFY (R65, R66, R81). -/
def Obligations.FramesSentAreSendable : Prop :=
  ∀ (s : State) (c : Command), s.Inv → s.command = some c → s.ctrl ∈ [.txOp, .txHdr, .txData] →
    (s.frame c).sendable = true ∧ (s.frame c).wellFormed = true
end

