-- ==== Sys2Proof/Laws/Codec.lean ====
section
/-! SUPPORT. The opcode map, the operation select and the byte order of the fields, each said once. -/

namespace Sys2Proof

@[simp] theorem Command.ofSelect_select (c : Command) : Command.ofSelect c.select = some c := by
  cases c <;> rfl

@[simp] theorem Command.ofOpcode_opcode (c : Command) : Command.ofOpcode c.opcode = some c := by
  cases c <;> rfl

theorem Command.mem_all (c : Command) : c ∈ Command.all := by
  cases c <;> decide

/-- A select value selects a command exactly when it is that command's (R95). -/
theorem Command.ofSelect_eq_some {v : BitVec 4} {c : Command} :
    Command.ofSelect v = some c ↔ v = c.select := by
  constructor
  · intro h
    have := List.find?_some h
    simpa using (beq_iff_eq.mp this).symm
  · rintro rfl
    simp

/-- The select values 9 to 15, and no others, are reserved (R96). -/
theorem Command.ofSelect_eq_none {v : BitVec 4} : Command.ofSelect v = none ↔ 9 ≤ v.toNat := by
  revert v
  decide

/-- A byte is an opcode exactly when it is that of the command (R85). -/
theorem Command.ofOpcode_eq_some {b : Byte} {c : Command} :
    Command.ofOpcode b = some c ↔ b = c.opcode := by
  constructor
  · intro h
    have := List.find?_some h
    simpa using (beq_iff_eq.mp this).symm
  · rintro rfl
    simp

/-- A byte is no opcode exactly when it is none of the nine (R92). -/
theorem Command.ofOpcode_eq_none {b : Byte} : Command.ofOpcode b = none ↔ ∀ c : Command, c.opcode ≠ b := by
  rw [Command.ofOpcode, List.find?_eq_none]
  constructor
  · intro h c e
    exact h c c.mem_all (by simp [e])
  · intro h c _
    simpa using h c

theorem byteOf_toNat {w : Nat} (v : BitVec w) (k : Nat) :
    (byteOf v k).toNat = v.toNat / 2 ^ (8 * k) % 256 := by
  simp [byteOf, Nat.shiftRight_eq_div_pow]

theorem join32_toNat (b3 b2 b1 b0 : Byte) :
    (join32 b3 b2 b1 b0).toNat = b3.toNat * 2 ^ 24 + b2.toNat * 2 ^ 16 + b1.toNat * 2 ^ 8 + b0.toNat := by
  have h0 := b0.isLt
  have h1 := b1.isLt
  have h2 := b2.isLt
  simp only [join32, BitVec.toNat_append]
  rw [← Nat.shiftLeft_add_eq_or_of_lt h2, ← Nat.shiftLeft_add_eq_or_of_lt h1, ← Nat.shiftLeft_add_eq_or_of_lt h0]
  simp only [Nat.shiftLeft_eq]
  omega

theorem join16_toNat (b1 b0 : Byte) : (join16 b1 b0).toNat = b1.toNat * 2 ^ 8 + b0.toNat := by
  have h0 := b0.isLt
  simp only [join16, BitVec.toNat_append]
  rw [← Nat.shiftLeft_add_eq_or_of_lt h0]
  simp only [Nat.shiftLeft_eq]

/-- The address bytes of an address join to it (R86). -/
@[simp] theorem join32_addressBytes (a : Word) :
    join32 (byteOf a 3) (byteOf a 2) (byteOf a 1) (byteOf a 0) = a := by
  apply BitVec.eq_of_toNat_eq
  have := a.isLt
  simp only [join32_toNat, byteOf_toNat]
  omega

/-- The length bytes of a length join to it (R87). -/
@[simp] theorem join16_lengthBytes (l : Len) : join16 (byteOf l 1) (byteOf l 0) = l := by
  apply BitVec.eq_of_toNat_eq
  have := l.isLt
  simp only [join16_toNat, byteOf_toNat]
  omega

/-- The bytes of a joined address are those that were joined. -/
theorem addressBytes_join32 (b3 b2 b1 b0 : Byte) :
    addressBytes (join32 b3 b2 b1 b0) = [b3, b2, b1, b0] := by
  have h0 := b0.isLt
  have h1 := b1.isLt
  have h2 := b2.isLt
  have h3 := b3.isLt
  simp only [addressBytes, List.cons.injEq, and_true]
  refine ⟨?_, ?_, ?_, ?_⟩ <;> (apply BitVec.eq_of_toNat_eq; simp only [byteOf_toNat, join32_toNat]; omega)

/-- The bytes of a joined length are those that were joined. -/
theorem lengthBytes_join16 (b1 b0 : Byte) : lengthBytes (join16 b1 b0) = [b1, b0] := by
  have h0 := b0.isLt
  have h1 := b1.isLt
  simp only [lengthBytes, List.cons.injEq, and_true]
  refine ⟨?_, ?_⟩ <;> (apply BitVec.eq_of_toNat_eq; simp only [byteOf_toNat, join16_toNat]; omega)

/-- The header decoder reads back the fields of an encoded header, whatever follows. -/
theorem decodeHeader_fields (a : Word) (l : Len) (rest : List Byte) :
    decodeHeader (addressBytes a ++ (lengthBytes l ++ rest)) = some (a, l, rest) := by
  simp [addressBytes, lengthBytes, decodeHeader]

/-- What the header decoder reads is what the bytes hold. -/
theorem decodeHeader_eq_some {bs rest : List Byte} {a : Word} {l : Len}
    (h : decodeHeader bs = some (a, l, rest)) : bs = addressBytes a ++ lengthBytes l ++ rest := by
  match bs, h with
  | a3 :: a2 :: a1 :: a0 :: l1 :: l0 :: r, h =>
    simp only [decodeHeader, Option.some.injEq, Prod.mk.injEq] at h
    obtain ⟨rfl, rfl, rfl⟩ := h
    simp [addressBytes_join32, lengthBytes_join16]

/-- The bit view of a header as one number: opcode, address and length, each above the next (R82). -/
theorem headerView_fields (op : Byte) (a : Word) (l : Len) (rest : List Byte) :
    headerView (op :: (addressBytes a ++ lengthBytes l ++ rest)) = some (op ++ a ++ l) := by
  have ha := join32_addressBytes a
  have hl := join16_lengthBytes l
  simp only [join32] at ha
  simp only [join16] at hl
  have := a.isLt
  have := l.isLt
  have := op.isLt
  simp only [headerView, addressBytes, lengthBytes, List.cons_append, List.nil_append, Option.some.injEq]
  conv => rhs; rw [← ha, ← hl]
  apply BitVec.eq_of_toNat_eq
  simp only [BitVec.toNat_append, Nat.shiftLeft_or_distrib, Nat.or_assoc, ← Nat.shiftLeft_add]

/-- The bit view of a header as a number (R82). -/
theorem view_toNat (op : Byte) (a : Word) (l : Len) :
    (op ++ a ++ l : BitVec 56).toNat = op.toNat * 2 ^ 48 + a.toNat * 2 ^ 16 + l.toNat := by
  have ha := a.isLt
  have hl := l.isLt
  have e : (op ++ a ++ l : BitVec 56).toNat = (op.toNat <<< 32 ||| a.toNat) <<< 16 ||| l.toNat := by
    rw [← BitVec.toNat_append, ← BitVec.toNat_append]
  rw [e, ← Nat.shiftLeft_add_eq_or_of_lt ha, ← Nat.shiftLeft_add_eq_or_of_lt hl]
  simp only [Nat.shiftLeft_eq]
  omega

@[simp] theorem viewOpcode_append (op : Byte) (a : Word) (l : Len) : viewOpcode (op ++ a ++ l) = op := by
  apply BitVec.eq_of_toNat_eq
  have := a.isLt
  have := l.isLt
  have := op.isLt
  rw [viewOpcode, BitVec.extractLsb'_toNat, view_toNat, Nat.shiftRight_eq_div_pow]
  omega

@[simp] theorem viewAddress_append (op : Byte) (a : Word) (l : Len) : viewAddress (op ++ a ++ l) = a := by
  apply BitVec.eq_of_toNat_eq
  have := a.isLt
  have := l.isLt
  rw [viewAddress, BitVec.extractLsb'_toNat, view_toNat, Nat.shiftRight_eq_div_pow]
  omega

@[simp] theorem viewLength_append (op : Byte) (a : Word) (l : Len) : viewLength (op ++ a ++ l) = l := by
  apply BitVec.eq_of_toNat_eq
  have := l.isLt
  rw [viewLength, BitVec.extractLsb'_toNat, view_toNat, Nat.shiftRight_eq_div_pow]
  omega

/-- The header bytes of a bit view are the bytes the view was made of (R82). -/
@[simp] theorem viewBytes_append (op : Byte) (a : Word) (l : Len) :
    viewBytes (op ++ a ++ l) = op :: (addressBytes a ++ lengthBytes l) := by
  simp [viewBytes]

/-- One more byte at the end of a frame is the low byte of its word (R82). -/
theorem encodingWord_concat (bs : List Byte) (b : Byte) :
    encodingWord (bs ++ [b]) = encodingWord bs * 256 + b.toNat := by
  simp [encodingWord]

/-- The bytes of a frame's word in the bit view of R82 are the frame. -/
theorem encodingBytes_encodingWord (bs : List Byte) :
    encodingBytes (8 * bs.length) (encodingWord bs) = bs := by
  have key : ∀ rev : List Byte, wordBytes (encodingWord rev.reverse) rev.length = rev := by
    intro rev
    induction rev with
    | nil => rfl
    | cons b rest ih =>
      have hb := b.isLt
      have hq : (encodingWord rest.reverse * 256 + b.toNat) / 256 = encodingWord rest.reverse := by omega
      have hr : BitVec.ofNat 8 (encodingWord rest.reverse * 256 + b.toNat) = b := by
        apply BitVec.eq_of_toNat_eq
        simp only [BitVec.toNat_ofNat]
        omega
      simp [wordBytes, encodingWord_concat, hq, hr, ih]
  have := key bs.reverse
  simp only [List.reverse_reverse, List.length_reverse] at this
  simp [encodingBytes, this]

end Sys2Proof
end

