-- ==== Sys2Proof/Laws/State.lean ====
section
/-! SUPPORT. Beside State: one lemma per field per shared update, true by rfl, so that no proof unfolds a record
update. -/

namespace Sys2Proof.Machine

section raise

@[simp] theorem State.raise_ctrl (s : State) (e : ErrKind) : (s.raise e).ctrl = .done := rfl
@[simp] theorem State.raise_op (s : State) (e : ErrKind) : (s.raise e).op = s.op := rfl
@[simp] theorem State.raise_addr (s : State) (e : ErrKind) : (s.raise e).addr = s.addr := rfl
@[simp] theorem State.raise_addrCarry (s : State) (e : ErrKind) : (s.raise e).addrCarry = s.addrCarry := rfl
@[simp] theorem State.raise_remaining (s : State) (e : ErrKind) : (s.raise e).remaining = s.remaining := rfl
@[simp] theorem State.raise_chunkLen (s : State) (e : ErrKind) : (s.raise e).chunkLen = s.chunkLen := rfl
@[simp] theorem State.raise_bufIdx (s : State) (e : ErrKind) : (s.raise e).bufIdx = s.bufIdx := rfl
@[simp] theorem State.raise_buf (s : State) (e : ErrKind) : (s.raise e).buf = s.buf := rfl
@[simp] theorem State.raise_eoi (s : State) (e : ErrKind) : (s.raise e).eoi = s.eoi := rfl
@[simp] theorem State.raise_txIdx (s : State) (e : ErrKind) : (s.raise e).txIdx = s.txIdx := rfl
@[simp] theorem State.raise_rspLen (s : State) (e : ErrKind) : (s.raise e).rspLen = s.rspLen := rfl
@[simp] theorem State.raise_rxCnt (s : State) (e : ErrKind) : (s.raise e).rxCnt = s.rxCnt := rfl
@[simp] theorem State.raise_rspB0 (s : State) (e : ErrKind) : (s.raise e).rspB0 = s.rspB0 := rfl
@[simp] theorem State.raise_devCrc (s : State) (e : ErrKind) : (s.raise e).devCrc = s.devCrc := rfl
@[simp] theorem State.raise_crc (s : State) (e : ErrKind) : (s.raise e).crc = s.crc := rfl
@[simp] theorem State.raise_settleCnt (s : State) (e : ErrKind) : (s.raise e).settleCnt = s.settleCnt := rfl
@[simp] theorem State.raise_errCode (s : State) (e : ErrKind) : (s.raise e).errCode = e := rfl
@[simp] theorem State.raise_cdoneActive (s : State) (e : ErrKind) : (s.raise e).cdoneActive = s.cdoneActive := rfl
@[simp] theorem State.raise_verifyOk (s : State) (e : ErrKind) : (s.raise e).verifyOk = s.verifyOk := rfl
@[simp] theorem State.raise_settleCycles (s : State) (e : ErrKind) : (s.raise e).settleCycles = s.settleCycles := rfl
@[simp] theorem State.raise_inputs (s : State) (e : ErrKind) : (s.raise e).inputs = s.inputs := rfl
@[simp] theorem State.raise_cycle (s : State) (e : ErrKind) : (s.raise e).cycle = s.cycle := rfl
@[simp] theorem State.raise_trace (s : State) (e : ErrKind) : (s.raise e).trace = s.trace := rfl

end raise

section finish

@[simp] theorem State.finish_ctrl (s : State) : (s.finish).ctrl = .done := rfl
@[simp] theorem State.finish_op (s : State) : (s.finish).op = s.op := rfl
@[simp] theorem State.finish_addr (s : State) : (s.finish).addr = s.addr := rfl
@[simp] theorem State.finish_addrCarry (s : State) : (s.finish).addrCarry = s.addrCarry := rfl
@[simp] theorem State.finish_remaining (s : State) : (s.finish).remaining = s.remaining := rfl
@[simp] theorem State.finish_chunkLen (s : State) : (s.finish).chunkLen = s.chunkLen := rfl
@[simp] theorem State.finish_bufIdx (s : State) : (s.finish).bufIdx = s.bufIdx := rfl
@[simp] theorem State.finish_buf (s : State) : (s.finish).buf = s.buf := rfl
@[simp] theorem State.finish_eoi (s : State) : (s.finish).eoi = s.eoi := rfl
@[simp] theorem State.finish_txIdx (s : State) : (s.finish).txIdx = s.txIdx := rfl
@[simp] theorem State.finish_rspLen (s : State) : (s.finish).rspLen = s.rspLen := rfl
@[simp] theorem State.finish_rxCnt (s : State) : (s.finish).rxCnt = s.rxCnt := rfl
@[simp] theorem State.finish_rspB0 (s : State) : (s.finish).rspB0 = s.rspB0 := rfl
@[simp] theorem State.finish_devCrc (s : State) : (s.finish).devCrc = s.devCrc := rfl
@[simp] theorem State.finish_crc (s : State) : (s.finish).crc = s.crc := rfl
@[simp] theorem State.finish_settleCnt (s : State) : (s.finish).settleCnt = s.settleCnt := rfl
@[simp] theorem State.finish_errCode (s : State) : (s.finish).errCode = s.errCode := rfl
@[simp] theorem State.finish_cdoneActive (s : State) : (s.finish).cdoneActive = s.cdoneActive := rfl
@[simp] theorem State.finish_verifyOk (s : State) : (s.finish).verifyOk = s.verifyOk := rfl
@[simp] theorem State.finish_settleCycles (s : State) : (s.finish).settleCycles = s.settleCycles := rfl
@[simp] theorem State.finish_inputs (s : State) : (s.finish).inputs = s.inputs := rfl
@[simp] theorem State.finish_cycle (s : State) : (s.finish).cycle = s.cycle := rfl
@[simp] theorem State.finish_trace (s : State) : (s.finish).trace = s.trace := rfl

end finish

section tick

@[simp] theorem State.tick_ctrl (s : State) (m : List Transfer) : (s.tick m).ctrl = s.ctrl := rfl
@[simp] theorem State.tick_op (s : State) (m : List Transfer) : (s.tick m).op = s.op := rfl
@[simp] theorem State.tick_addr (s : State) (m : List Transfer) : (s.tick m).addr = s.addr := rfl
@[simp] theorem State.tick_addrCarry (s : State) (m : List Transfer) : (s.tick m).addrCarry = s.addrCarry := rfl
@[simp] theorem State.tick_remaining (s : State) (m : List Transfer) : (s.tick m).remaining = s.remaining := rfl
@[simp] theorem State.tick_chunkLen (s : State) (m : List Transfer) : (s.tick m).chunkLen = s.chunkLen := rfl
@[simp] theorem State.tick_bufIdx (s : State) (m : List Transfer) : (s.tick m).bufIdx = s.bufIdx := rfl
@[simp] theorem State.tick_buf (s : State) (m : List Transfer) : (s.tick m).buf = s.buf := rfl
@[simp] theorem State.tick_eoi (s : State) (m : List Transfer) : (s.tick m).eoi = s.eoi := rfl
@[simp] theorem State.tick_txIdx (s : State) (m : List Transfer) : (s.tick m).txIdx = s.txIdx := rfl
@[simp] theorem State.tick_rspLen (s : State) (m : List Transfer) : (s.tick m).rspLen = s.rspLen := rfl
@[simp] theorem State.tick_rxCnt (s : State) (m : List Transfer) : (s.tick m).rxCnt = s.rxCnt := rfl
@[simp] theorem State.tick_rspB0 (s : State) (m : List Transfer) : (s.tick m).rspB0 = s.rspB0 := rfl
@[simp] theorem State.tick_devCrc (s : State) (m : List Transfer) : (s.tick m).devCrc = s.devCrc := rfl
@[simp] theorem State.tick_crc (s : State) (m : List Transfer) : (s.tick m).crc = s.crc := rfl
@[simp] theorem State.tick_settleCnt (s : State) (m : List Transfer) : (s.tick m).settleCnt = s.settleCnt := rfl
@[simp] theorem State.tick_errCode (s : State) (m : List Transfer) : (s.tick m).errCode = s.errCode := rfl
@[simp] theorem State.tick_cdoneActive (s : State) (m : List Transfer) : (s.tick m).cdoneActive = s.cdoneActive := rfl
@[simp] theorem State.tick_verifyOk (s : State) (m : List Transfer) : (s.tick m).verifyOk = s.verifyOk := rfl
@[simp] theorem State.tick_settleCycles (s : State) (m : List Transfer) : (s.tick m).settleCycles = s.settleCycles := rfl
@[simp] theorem State.tick_inputs (s : State) (m : List Transfer) : (s.tick m).inputs = s.inputs.tail := rfl
@[simp] theorem State.tick_cycle (s : State) (m : List Transfer) : (s.tick m).cycle = s.cycle + 1 := rfl
@[simp] theorem State.tick_trace (s : State) (m : List Transfer) : (s.tick m).trace = s.trace ++ m := rfl

end tick

section advance

@[simp] theorem State.advance_ctrl (s : State) : (s.advance).ctrl = s.ctrl := rfl
@[simp] theorem State.advance_op (s : State) : (s.advance).op = s.op := rfl
@[simp] theorem State.advance_addr (s : State) : (s.advance).addr = BitVec.ofNat 32 s.advanceSum := rfl
@[simp] theorem State.advance_addrCarry (s : State) : (s.advance).addrCarry = (s.addrCarry || decide (2 ^ 32 ≤ s.advanceSum)) := rfl
@[simp] theorem State.advance_remaining (s : State) : (s.advance).remaining = s.remaining := rfl
@[simp] theorem State.advance_chunkLen (s : State) : (s.advance).chunkLen = s.chunkLen := rfl
@[simp] theorem State.advance_bufIdx (s : State) : (s.advance).bufIdx = s.bufIdx := rfl
@[simp] theorem State.advance_buf (s : State) : (s.advance).buf = s.buf := rfl
@[simp] theorem State.advance_eoi (s : State) : (s.advance).eoi = s.eoi := rfl
@[simp] theorem State.advance_txIdx (s : State) : (s.advance).txIdx = s.txIdx := rfl
@[simp] theorem State.advance_rspLen (s : State) : (s.advance).rspLen = s.rspLen := rfl
@[simp] theorem State.advance_rxCnt (s : State) : (s.advance).rxCnt = s.rxCnt := rfl
@[simp] theorem State.advance_rspB0 (s : State) : (s.advance).rspB0 = s.rspB0 := rfl
@[simp] theorem State.advance_devCrc (s : State) : (s.advance).devCrc = s.devCrc := rfl
@[simp] theorem State.advance_crc (s : State) : (s.advance).crc = s.crc := rfl
@[simp] theorem State.advance_settleCnt (s : State) : (s.advance).settleCnt = s.settleCnt := rfl
@[simp] theorem State.advance_errCode (s : State) : (s.advance).errCode = s.errCode := rfl
@[simp] theorem State.advance_cdoneActive (s : State) : (s.advance).cdoneActive = s.cdoneActive := rfl
@[simp] theorem State.advance_verifyOk (s : State) : (s.advance).verifyOk = s.verifyOk := rfl
@[simp] theorem State.advance_settleCycles (s : State) : (s.advance).settleCycles = s.settleCycles := rfl
@[simp] theorem State.advance_inputs (s : State) : (s.advance).inputs = s.inputs := rfl
@[simp] theorem State.advance_cycle (s : State) : (s.advance).cycle = s.cycle := rfl
@[simp] theorem State.advance_trace (s : State) : (s.advance).trace = s.trace := rfl

end advance

section capture

@[simp] theorem State.capture_ctrl (s : State) (c : Command) (b : Byte) : (s.capture c b).ctrl = s.ctrl := rfl
@[simp] theorem State.capture_op (s : State) (c : Command) (b : Byte) : (s.capture c b).op = s.op := rfl
@[simp] theorem State.capture_addr (s : State) (c : Command) (b : Byte) : (s.capture c b).addr = s.addr := rfl
@[simp] theorem State.capture_addrCarry (s : State) (c : Command) (b : Byte) : (s.capture c b).addrCarry = s.addrCarry := rfl
@[simp] theorem State.capture_remaining (s : State) (c : Command) (b : Byte) : (s.capture c b).remaining = s.remaining := rfl
@[simp] theorem State.capture_chunkLen (s : State) (c : Command) (b : Byte) : (s.capture c b).chunkLen = s.chunkLen := rfl
@[simp] theorem State.capture_bufIdx (s : State) (c : Command) (b : Byte) : (s.capture c b).bufIdx = s.bufIdx := rfl
@[simp] theorem State.capture_buf (s : State) (c : Command) (b : Byte) : (s.capture c b).buf = s.buf := rfl
@[simp] theorem State.capture_eoi (s : State) (c : Command) (b : Byte) : (s.capture c b).eoi = s.eoi := rfl
@[simp] theorem State.capture_txIdx (s : State) (c : Command) (b : Byte) : (s.capture c b).txIdx = s.txIdx := rfl
@[simp] theorem State.capture_rspLen (s : State) (c : Command) (b : Byte) : (s.capture c b).rspLen = s.rspLen := rfl
@[simp] theorem State.capture_rxCnt (s : State) (c : Command) (b : Byte) : (s.capture c b).rxCnt = s.rxCnt := rfl
@[simp] theorem State.capture_rspB0 (s : State) (c : Command) (b : Byte) : (s.capture c b).rspB0 = (if s.rxCnt = 0#9 then b else s.rspB0) := rfl
@[simp] theorem State.capture_devCrc (s : State) (c : Command) (b : Byte) : (s.capture c b).devCrc = (if c = .verify then s.devCrc.setWidth 24 ++ b else s.devCrc) := rfl
@[simp] theorem State.capture_crc (s : State) (c : Command) (b : Byte) : (s.capture c b).crc = s.crc := rfl
@[simp] theorem State.capture_settleCnt (s : State) (c : Command) (b : Byte) : (s.capture c b).settleCnt = s.settleCnt := rfl
@[simp] theorem State.capture_errCode (s : State) (c : Command) (b : Byte) : (s.capture c b).errCode = s.errCode := rfl
@[simp] theorem State.capture_cdoneActive (s : State) (c : Command) (b : Byte) : (s.capture c b).cdoneActive = s.cdoneActive := rfl
@[simp] theorem State.capture_verifyOk (s : State) (c : Command) (b : Byte) : (s.capture c b).verifyOk = s.verifyOk := rfl
@[simp] theorem State.capture_settleCycles (s : State) (c : Command) (b : Byte) : (s.capture c b).settleCycles = s.settleCycles := rfl
@[simp] theorem State.capture_inputs (s : State) (c : Command) (b : Byte) : (s.capture c b).inputs = s.inputs := rfl
@[simp] theorem State.capture_cycle (s : State) (c : Command) (b : Byte) : (s.capture c b).cycle = s.cycle := rfl
@[simp] theorem State.capture_trace (s : State) (c : Command) (b : Byte) : (s.capture c b).trace = s.trace := rfl

end capture

section acceptEffects

@[simp] theorem State.acceptEffects_ctrl (s : State) (v : BitVec 4) (n : Len) : (s.acceptEffects v n).ctrl = s.ctrl := rfl
@[simp] theorem State.acceptEffects_op (s : State) (v : BitVec 4) (n : Len) : (s.acceptEffects v n).op = v := rfl
@[simp] theorem State.acceptEffects_addr (s : State) (v : BitVec 4) (n : Len) : (s.acceptEffects v n).addr = 0#32 := rfl
@[simp] theorem State.acceptEffects_addrCarry (s : State) (v : BitVec 4) (n : Len) : (s.acceptEffects v n).addrCarry = false := rfl
@[simp] theorem State.acceptEffects_remaining (s : State) (v : BitVec 4) (n : Len) : (s.acceptEffects v n).remaining = (if v = Command.select .read ∨ v = Command.select .verify then n else 0#16) := rfl
@[simp] theorem State.acceptEffects_chunkLen (s : State) (v : BitVec 4) (n : Len) : (s.acceptEffects v n).chunkLen = 0#9 := rfl
@[simp] theorem State.acceptEffects_bufIdx (s : State) (v : BitVec 4) (n : Len) : (s.acceptEffects v n).bufIdx = 0#9 := rfl
@[simp] theorem State.acceptEffects_buf (s : State) (v : BitVec 4) (n : Len) : (s.acceptEffects v n).buf = s.buf := rfl
@[simp] theorem State.acceptEffects_eoi (s : State) (v : BitVec 4) (n : Len) : (s.acceptEffects v n).eoi = false := rfl
@[simp] theorem State.acceptEffects_txIdx (s : State) (v : BitVec 4) (n : Len) : (s.acceptEffects v n).txIdx = 0#3 := rfl
@[simp] theorem State.acceptEffects_rspLen (s : State) (v : BitVec 4) (n : Len) : (s.acceptEffects v n).rspLen = 0#9 := rfl
@[simp] theorem State.acceptEffects_rxCnt (s : State) (v : BitVec 4) (n : Len) : (s.acceptEffects v n).rxCnt = 0#9 := rfl
@[simp] theorem State.acceptEffects_rspB0 (s : State) (v : BitVec 4) (n : Len) : (s.acceptEffects v n).rspB0 = 0#8 := rfl
@[simp] theorem State.acceptEffects_devCrc (s : State) (v : BitVec 4) (n : Len) : (s.acceptEffects v n).devCrc = 0#32 := rfl
@[simp] theorem State.acceptEffects_crc (s : State) (v : BitVec 4) (n : Len) : (s.acceptEffects v n).crc = crcInit := rfl
@[simp] theorem State.acceptEffects_settleCnt (s : State) (v : BitVec 4) (n : Len) : (s.acceptEffects v n).settleCnt = 0 := rfl
@[simp] theorem State.acceptEffects_errCode (s : State) (v : BitVec 4) (n : Len) : (s.acceptEffects v n).errCode = .none := rfl
@[simp] theorem State.acceptEffects_cdoneActive (s : State) (v : BitVec 4) (n : Len) : (s.acceptEffects v n).cdoneActive = false := rfl
@[simp] theorem State.acceptEffects_verifyOk (s : State) (v : BitVec 4) (n : Len) : (s.acceptEffects v n).verifyOk = false := rfl
@[simp] theorem State.acceptEffects_settleCycles (s : State) (v : BitVec 4) (n : Len) : (s.acceptEffects v n).settleCycles = s.settleCycles := rfl
@[simp] theorem State.acceptEffects_inputs (s : State) (v : BitVec 4) (n : Len) : (s.acceptEffects v n).inputs = s.inputs := rfl
@[simp] theorem State.acceptEffects_cycle (s : State) (v : BitVec 4) (n : Len) : (s.acceptEffects v n).cycle = s.cycle := rfl
@[simp] theorem State.acceptEffects_trace (s : State) (v : BitVec 4) (n : Len) : (s.acceptEffects v n).trace = s.trace := rfl

end acceptEffects

section resetRegs

@[simp] theorem State.resetRegs_ctrl (s : State) : (s.resetRegs).ctrl = .idle := rfl
@[simp] theorem State.resetRegs_op (s : State) : (s.resetRegs).op = 0#4 := rfl
@[simp] theorem State.resetRegs_addr (s : State) : (s.resetRegs).addr = 0#32 := rfl
@[simp] theorem State.resetRegs_addrCarry (s : State) : (s.resetRegs).addrCarry = false := rfl
@[simp] theorem State.resetRegs_remaining (s : State) : (s.resetRegs).remaining = 0#16 := rfl
@[simp] theorem State.resetRegs_chunkLen (s : State) : (s.resetRegs).chunkLen = 0#9 := rfl
@[simp] theorem State.resetRegs_bufIdx (s : State) : (s.resetRegs).bufIdx = 0#9 := rfl
@[simp] theorem State.resetRegs_buf (s : State) : (s.resetRegs).buf = s.buf := rfl
@[simp] theorem State.resetRegs_eoi (s : State) : (s.resetRegs).eoi = false := rfl
@[simp] theorem State.resetRegs_txIdx (s : State) : (s.resetRegs).txIdx = 0#3 := rfl
@[simp] theorem State.resetRegs_rspLen (s : State) : (s.resetRegs).rspLen = 0#9 := rfl
@[simp] theorem State.resetRegs_rxCnt (s : State) : (s.resetRegs).rxCnt = 0#9 := rfl
@[simp] theorem State.resetRegs_rspB0 (s : State) : (s.resetRegs).rspB0 = 0#8 := rfl
@[simp] theorem State.resetRegs_devCrc (s : State) : (s.resetRegs).devCrc = 0#32 := rfl
@[simp] theorem State.resetRegs_crc (s : State) : (s.resetRegs).crc = 0xFFFFFFFF#32 := rfl
@[simp] theorem State.resetRegs_settleCnt (s : State) : (s.resetRegs).settleCnt = 0 := rfl
@[simp] theorem State.resetRegs_errCode (s : State) : (s.resetRegs).errCode = .none := rfl
@[simp] theorem State.resetRegs_cdoneActive (s : State) : (s.resetRegs).cdoneActive = false := rfl
@[simp] theorem State.resetRegs_verifyOk (s : State) : (s.resetRegs).verifyOk = false := rfl
@[simp] theorem State.resetRegs_settleCycles (s : State) : (s.resetRegs).settleCycles = s.settleCycles := rfl
@[simp] theorem State.resetRegs_inputs (s : State) : (s.resetRegs).inputs = s.inputs := rfl
@[simp] theorem State.resetRegs_cycle (s : State) : (s.resetRegs).cycle = s.cycle := rfl
@[simp] theorem State.resetRegs_trace (s : State) : (s.resetRegs).trace = s.trace := rfl

end resetRegs

section storeByte

@[simp] theorem State.storeByte_ctrl (s : State) : s.storeByte.ctrl = s.ctrl := rfl
@[simp] theorem State.storeByte_op (s : State) : s.storeByte.op = s.op := rfl
@[simp] theorem State.storeByte_addr (s : State) : s.storeByte.addr = s.addr := rfl
@[simp] theorem State.storeByte_addrCarry (s : State) : s.storeByte.addrCarry = s.addrCarry := rfl
@[simp] theorem State.storeByte_remaining (s : State) : s.storeByte.remaining = s.remaining := rfl
@[simp] theorem State.storeByte_chunkLen (s : State) : s.storeByte.chunkLen = s.chunkLen := rfl
@[simp] theorem State.storeByte_bufIdx (s : State) : s.storeByte.bufIdx = s.bufIdx := rfl
@[simp] theorem State.storeByte_buf (s : State) : s.storeByte.buf = Memory.write s.buf s.fillIndex s.now.srcData := rfl
@[simp] theorem State.storeByte_eoi (s : State) : s.storeByte.eoi = s.eoi := rfl
@[simp] theorem State.storeByte_txIdx (s : State) : s.storeByte.txIdx = s.txIdx := rfl
@[simp] theorem State.storeByte_rspLen (s : State) : s.storeByte.rspLen = s.rspLen := rfl
@[simp] theorem State.storeByte_rxCnt (s : State) : s.storeByte.rxCnt = s.rxCnt := rfl
@[simp] theorem State.storeByte_rspB0 (s : State) : s.storeByte.rspB0 = s.rspB0 := rfl
@[simp] theorem State.storeByte_devCrc (s : State) : s.storeByte.devCrc = s.devCrc := rfl
@[simp] theorem State.storeByte_crc (s : State) : s.storeByte.crc = s.crc := rfl
@[simp] theorem State.storeByte_settleCnt (s : State) : s.storeByte.settleCnt = s.settleCnt := rfl
@[simp] theorem State.storeByte_errCode (s : State) : s.storeByte.errCode = s.errCode := rfl
@[simp] theorem State.storeByte_cdoneActive (s : State) : s.storeByte.cdoneActive = s.cdoneActive := rfl
@[simp] theorem State.storeByte_verifyOk (s : State) : s.storeByte.verifyOk = s.verifyOk := rfl
@[simp] theorem State.storeByte_settleCycles (s : State) : s.storeByte.settleCycles = s.settleCycles := rfl
@[simp] theorem State.storeByte_inputs (s : State) : s.storeByte.inputs = s.inputs := rfl
@[simp] theorem State.storeByte_cycle (s : State) : s.storeByte.cycle = s.cycle := rfl
@[simp] theorem State.storeByte_trace (s : State) : s.storeByte.trace = s.trace := rfl

end storeByte

section endInput

@[simp] theorem State.endInput_ctrl (s : State) : s.endInput.ctrl = s.ctrl := rfl
@[simp] theorem State.endInput_op (s : State) : s.endInput.op = s.op := rfl
@[simp] theorem State.endInput_addr (s : State) : s.endInput.addr = s.addr := rfl
@[simp] theorem State.endInput_addrCarry (s : State) : s.endInput.addrCarry = s.addrCarry := rfl
@[simp] theorem State.endInput_remaining (s : State) : s.endInput.remaining = s.remaining := rfl
@[simp] theorem State.endInput_chunkLen (s : State) : s.endInput.chunkLen = s.chunkLen := rfl
@[simp] theorem State.endInput_bufIdx (s : State) : s.endInput.bufIdx = s.bufIdx := rfl
@[simp] theorem State.endInput_buf (s : State) : s.endInput.buf = s.buf := rfl
@[simp] theorem State.endInput_eoi (s : State) : s.endInput.eoi = true := rfl
@[simp] theorem State.endInput_txIdx (s : State) : s.endInput.txIdx = s.txIdx := rfl
@[simp] theorem State.endInput_rspLen (s : State) : s.endInput.rspLen = s.rspLen := rfl
@[simp] theorem State.endInput_rxCnt (s : State) : s.endInput.rxCnt = s.rxCnt := rfl
@[simp] theorem State.endInput_rspB0 (s : State) : s.endInput.rspB0 = s.rspB0 := rfl
@[simp] theorem State.endInput_devCrc (s : State) : s.endInput.devCrc = s.devCrc := rfl
@[simp] theorem State.endInput_crc (s : State) : s.endInput.crc = s.crc := rfl
@[simp] theorem State.endInput_settleCnt (s : State) : s.endInput.settleCnt = s.settleCnt := rfl
@[simp] theorem State.endInput_errCode (s : State) : s.endInput.errCode = s.errCode := rfl
@[simp] theorem State.endInput_cdoneActive (s : State) : s.endInput.cdoneActive = s.cdoneActive := rfl
@[simp] theorem State.endInput_verifyOk (s : State) : s.endInput.verifyOk = s.verifyOk := rfl
@[simp] theorem State.endInput_settleCycles (s : State) : s.endInput.settleCycles = s.settleCycles := rfl
@[simp] theorem State.endInput_inputs (s : State) : s.endInput.inputs = s.inputs := rfl
@[simp] theorem State.endInput_cycle (s : State) : s.endInput.cycle = s.cycle := rfl
@[simp] theorem State.endInput_trace (s : State) : s.endInput.trace = s.trace := rfl

end endInput

section consumeChunk

@[simp] theorem State.consumeChunk_ctrl (s : State) : s.consumeChunk.ctrl = s.ctrl := rfl
@[simp] theorem State.consumeChunk_op (s : State) : s.consumeChunk.op = s.op := rfl
@[simp] theorem State.consumeChunk_addr (s : State) : s.consumeChunk.addr = BitVec.ofNat 32 s.advanceSum := rfl
@[simp] theorem State.consumeChunk_addrCarry (s : State) : s.consumeChunk.addrCarry = (s.addrCarry || decide (2 ^ 32 ≤ s.advanceSum)) := rfl
@[simp] theorem State.consumeChunk_remaining (s : State) : s.consumeChunk.remaining = s.remainingAfter := rfl
@[simp] theorem State.consumeChunk_chunkLen (s : State) : s.consumeChunk.chunkLen = s.chunkLen := rfl
@[simp] theorem State.consumeChunk_bufIdx (s : State) : s.consumeChunk.bufIdx = s.bufIdx := rfl
@[simp] theorem State.consumeChunk_buf (s : State) : s.consumeChunk.buf = s.buf := rfl
@[simp] theorem State.consumeChunk_eoi (s : State) : s.consumeChunk.eoi = s.eoi := rfl
@[simp] theorem State.consumeChunk_txIdx (s : State) : s.consumeChunk.txIdx = s.txIdx := rfl
@[simp] theorem State.consumeChunk_rspLen (s : State) : s.consumeChunk.rspLen = s.rspLen := rfl
@[simp] theorem State.consumeChunk_rxCnt (s : State) : s.consumeChunk.rxCnt = s.rxCnt := rfl
@[simp] theorem State.consumeChunk_rspB0 (s : State) : s.consumeChunk.rspB0 = s.rspB0 := rfl
@[simp] theorem State.consumeChunk_devCrc (s : State) : s.consumeChunk.devCrc = s.devCrc := rfl
@[simp] theorem State.consumeChunk_crc (s : State) : s.consumeChunk.crc = s.crc := rfl
@[simp] theorem State.consumeChunk_settleCnt (s : State) : s.consumeChunk.settleCnt = s.settleCnt := rfl
@[simp] theorem State.consumeChunk_errCode (s : State) : s.consumeChunk.errCode = s.errCode := rfl
@[simp] theorem State.consumeChunk_cdoneActive (s : State) : s.consumeChunk.cdoneActive = s.cdoneActive := rfl
@[simp] theorem State.consumeChunk_verifyOk (s : State) : s.consumeChunk.verifyOk = s.verifyOk := rfl
@[simp] theorem State.consumeChunk_settleCycles (s : State) : s.consumeChunk.settleCycles = s.settleCycles := rfl
@[simp] theorem State.consumeChunk_inputs (s : State) : s.consumeChunk.inputs = s.inputs := rfl
@[simp] theorem State.consumeChunk_cycle (s : State) : s.consumeChunk.cycle = s.cycle := rfl
@[simp] theorem State.consumeChunk_trace (s : State) : s.consumeChunk.trace = s.trace := rfl

end consumeChunk

end Sys2Proof.Machine
end

