-- ==== Sys2Proof/Laws/Cycle.lean ====
section
/-! SUPPORT. What one clock cycle can do, said once: when it stops, what it gives, which transfers it makes in each
controller state, and what a step is. -/

namespace Sys2Proof.Machine

/-- The inputs of this cycle are the head of the script. -/
theorem State.now_eq {s : State} {n : Inputs} {rest : List Inputs} (h : s.inputs = n :: rest) : s.now = n := by
  simp [State.now, h]

/-- The command's first move after acceptance, by instruction (R154). -/
def beginOf (i : Instr) : State → State :=
  match i with
  | .fwver => State.beginStatus
  | .halt => State.beginStatus
  | .start => State.beginStatus
  | .cdone => State.beginStatus
  | .erase => State.beginStatus
  | .serial => State.beginStatus
  | .read _ len => State.beginRead len
  | .write _ _ _ => State.beginWrite
  | .verify _ _ => State.beginVerify

/-- The check of a command, by instruction (R157). -/
def checkOf (c : Command) : State → State :=
  match c with
  | .fwver => State.finish
  | .halt => fun t => t.checkMarker markerHalt
  | .start => fun t => t.checkMarker markerStart
  | .cdone => State.checkCdone
  | .erase => fun t => t.checkMarker markerOk
  | .serial => State.finish
  | .read => State.checkRead
  | .write => State.checkWrite
  | .verify => State.checkVerify

/-- Every meaning is one cycle of its command with its own first move and check. -/
theorem exec_eq_clocked (i : Instr) (s : State) :
    exec i s = s.clocked i.command
      (s.commandCycle i.command (offeredCount i) (beginOf i) (checkOf i.command)) := by
  cases i <;> rfl

/-- When a cycle does not stop (R54, R150). -/
theorem State.stop_eq_none {s : State} {c : Command} :
    s.stop c = none ↔
      s.legal = true ∧ onPath c s.ctrl = true ∧ ¬(s.ctrl = .txData ∧ s.bufIdx = 256#9) ∧
        ¬(s.ctrl = .check ∧ c = .read ∧ s.remaining.toNat < s.chunkLen.toNat) := by
  unfold State.stop
  repeat' split
  all_goals simp_all

/-- A cycle that runs gives the register writes and the transfers. -/
theorem State.clocked_of_runs {s : State} {c : Command} (h : s.Runs c) (after : State) :
    s.clocked c after = .next (after.tick (s.transfers c)) := by
  simp [State.clocked, h.1, h.2]

/-- What a cycle with a command in hand can do: reset, or run. -/
theorem State.clocked_next {s t : State} {c : Command} {after : State} (h : s.clocked c after = .next t) :
    (s.now.rst = true ∧ t = s.resetRegs.tick []) ∨ (s.Runs c ∧ t = after.tick (s.transfers c)) := by
  unfold State.clocked at h
  split at h
  · rename_i hr
    exact .inl ⟨hr, by simpa using h.symm⟩
  · rename_i hr
    split at h
    · cases h
    · rename_i hs
      exact .inr ⟨⟨by simpa using hr, hs⟩, by simpa using h.symm⟩

/-- What an instruction's cycle can do. -/
theorem exec_next {i : Instr} {s t : State} (h : exec i s = .next t) :
    (s.now.rst = true ∧ t = s.resetRegs.tick []) ∨
      (s.Runs i.command ∧
        t = (s.commandCycle i.command (offeredCount i) (beginOf i) (checkOf i.command)).tick
          (s.transfers i.command)) := by
  rw [exec_eq_clocked] at h
  exact State.clocked_next h

/-- An instruction's cycle that runs. -/
theorem exec_of_runs {i : Instr} {s : State} (h : s.Runs i.command) :
    exec i s = .next ((s.commandCycle i.command (offeredCount i) (beginOf i) (checkOf i.command)).tick
      (s.transfers i.command)) := by
  rw [exec_eq_clocked, State.clocked_of_runs h]

/-- What a cycle without an instruction in hand can do: reset, BAD_OP, or hold. -/
theorem State.idleCycle_next {s t : State} (h : s.idleCycle = .next t) :
    (s.now.rst = true ∧ t = s.resetRegs.tick []) ∨
      (s.now.rst = false ∧ s.legal = true ∧ s.busy = false ∧ s.cmdFire = true ∧
        t = ((s.acceptEffects s.now.cmdOp s.now.cmdCount).raise .badOp).tick
          [.cmd s.now.cmdOp s.now.cmdCount]) ∨
      (s.now.rst = false ∧ s.legal = true ∧ s.busy = false ∧ s.cmdFire = false ∧ t = s.tick []) := by
  unfold State.idleCycle at h
  split at h
  · rename_i hr
    exact .inl ⟨hr, by simpa using h.symm⟩
  · rename_i hr
    split at h
    · cases h
    · rename_i hl
      split at h
      · cases h
      · rename_i hb
        split at h
        · rename_i hf
          exact .inr (.inl ⟨by simpa using hr, by simpa using hl, by simpa using hb, hf, by simpa using h.symm⟩)
        · rename_i hf
          exact .inr (.inr ⟨by simpa using hr, by simpa using hl, by simpa using hb, by simpa using hf,
            by simpa using h.symm⟩)

theorem State.busy_eq_false {s : State} : s.busy = false ↔ s.ctrl = .idle ∨ s.ctrl = .done := by
  unfold State.busy
  cases s.ctrl <;> simp

theorem State.busy_eq_true {s : State} : s.busy = true ↔ s.ctrl ≠ .idle ∧ s.ctrl ≠ .done := by
  unfold State.busy
  cases s.ctrl <;> simp

theorem State.frame_command (s : State) (c : Command) : (s.frame c).command = c := by
  cases c <;> rfl

theorem offered_command (c : Command) (n : Len) : (offered c n).command = c := by
  cases c <;> rfl

/-- The instruction in hand of a busy CORE. -/
theorem State.fetch_busy {s : State} {c : Command} (hb : s.busy = true) (hc : s.command = some c) :
    s.fetch = some (s.frame c) := by
  simp [State.fetch, hb, hc]

/-- A step of a busy CORE is a cycle of its command. -/
theorem step_busy {s : State} {c : Command} (hb : s.busy = true) (hc : s.command = some c) :
    step s = s.clocked c (s.commandCycle c (offeredCount (s.frame c)) (beginOf (s.frame c)) (checkOf c)) := by
  rw [step, State.fetch_busy hb hc]
  simp only
  rw [exec_eq_clocked, s.frame_command]

/-- Where the command is accepted in a cycle, no reset is and the CORE waits. -/
theorem State.cmdFire_eq_true {s : State} :
    s.cmdFire = true ↔ s.now.cmdValid = true ∧ s.now.rst = false ∧ s.busy = false := by
  simp [State.cmdFire, State.cmdReady]

/-- A step that accepts a command is a cycle of that command. -/
theorem step_accept {s : State} {c : Command} (hf : s.cmdFire = true) (hc : Command.ofSelect s.now.cmdOp = some c) :
    step s = exec (offered c s.now.cmdCount) s := by
  have hb := (State.cmdFire_eq_true.mp hf).2.2
  simp [step, State.fetch, hb, hf, hc]

/-- What a step can do: reset; a cycle of the command in hand; the acceptance of a command; BAD_OP; hold. -/
theorem step_next {s t : State} (h : step s = .next t) :
    (s.now.rst = true ∧ t = s.resetRegs.tick []) ∨
      (∃ c, s.busy = true ∧ s.command = some c ∧ s.Runs c ∧
        t = (s.commandCycle c (offeredCount (s.frame c)) (beginOf (s.frame c)) (checkOf c)).tick (s.transfers c)) ∨
      (∃ c, s.cmdFire = true ∧ Command.ofSelect s.now.cmdOp = some c ∧ s.Runs c ∧
        t = (beginOf (offered c s.now.cmdCount)
          (s.acceptEffects c.select (offeredCount (offered c s.now.cmdCount)))).tick (s.transfers c)) ∨
      (s.now.rst = false ∧ s.legal = true ∧ s.cmdFire = true ∧ Command.ofSelect s.now.cmdOp = none ∧
        t = ((s.acceptEffects s.now.cmdOp s.now.cmdCount).raise .badOp).tick [.cmd s.now.cmdOp s.now.cmdCount]) ∨
      (s.now.rst = false ∧ s.legal = true ∧ s.busy = false ∧ s.cmdFire = false ∧ t = s.tick []) := by
  by_cases hb : s.busy = true
  · cases hc : s.command with
    | none =>
      have hf : s.fetch = none := by simp [State.fetch, hb, hc]
      rw [step, hf] at h
      rcases State.idleCycle_next h with ⟨hr, e⟩ | ⟨_, _, hb', _⟩ | ⟨_, _, hb', _⟩
      · exact .inl ⟨hr, e⟩
      · simp [hb] at hb'
      · simp [hb] at hb'
    | some c =>
      rw [step_busy hb hc] at h
      rcases State.clocked_next h with ⟨hr, e⟩ | ⟨hr, e⟩
      · exact .inl ⟨hr, e⟩
      · exact .inr (.inl ⟨c, hb, rfl, hr, e⟩)
  · by_cases hf : s.cmdFire = true
    · cases hc : Command.ofSelect s.now.cmdOp with
      | none =>
        have : s.fetch = none := by simp [State.fetch, hb, hf, hc]
        rw [step, this] at h
        rcases State.idleCycle_next h with ⟨hr, e⟩ | ⟨hr, hl, _, _, e⟩ | ⟨_, _, _, hf', _⟩
        · exact .inl ⟨hr, e⟩
        · exact .inr (.inr (.inr (.inl ⟨hr, hl, hf, rfl, e⟩)))
        · simp [hf] at hf'
      | some c =>
        rw [step_accept hf hc] at h
        rcases exec_next h with ⟨hr, e⟩ | ⟨hr, e⟩
        · exact .inl ⟨hr, e⟩
        · rw [offered_command] at hr e
          refine .inr (.inr (.inl ⟨c, hf, rfl, hr, ?_⟩))
          have hb' := State.busy_eq_false.mp (by simpa using hb)
          rcases hb' with hk | hk <;> simpa [State.commandCycle, hk, State.acceptCycle, hf] using e
    · have : s.fetch = none := by simp [State.fetch, hb, hf]
      rw [step, this] at h
      rcases State.idleCycle_next h with ⟨hr, e⟩ | ⟨_, _, _, hf', _⟩ | ⟨hr, hl, hb', hf', e⟩
      · exact .inl ⟨hr, e⟩
      · exact absurd hf' hf
      · exact .inr (.inr (.inr (.inr ⟨hr, hl, hb', hf', e⟩)))

/-- The transfers of a TX cycle without error or reset. -/
theorem State.transfers_tx {s : State} {c : Command} (hk : s.ctrl = .txOp ∨ s.ctrl = .txHdr ∨ s.ctrl = .txData)
    (hr : s.now.rst = false) (he : s.now.chErr = false) :
    s.transfers c = if s.now.txReady then [.tx (s.txByte c)] else [] := by
  rcases hk with hk | hk | hk <;>
    simp [State.transfers, State.cmdFire, State.cmdReady, State.busy, State.txFire, State.txValid, State.ungated,
      State.sampledErr, State.rxFire, State.rxReady, State.snkFire, State.snkValid, State.snkRoute, State.resFire,
      State.resValid, State.resRoute, State.srcFire, State.srcReady, hk, hr, he]

/-- `tx.fire` in a TX cycle without error or reset. -/
theorem State.txFire_tx {s : State} {c : Command} (hk : s.ctrl = .txOp ∨ s.ctrl = .txHdr ∨ s.ctrl = .txData)
    (hr : s.now.rst = false) (he : s.now.chErr = false) : s.txFire c = s.now.txReady := by
  rcases hk with hk | hk | hk <;>
    simp [State.txFire, State.txValid, State.ungated, State.sampledErr, hk, hr, he]

/-- The transfers of an RX_LEN cycle without error or reset. -/
theorem State.transfers_rxLen {s : State} {c : Command} (hk : s.ctrl = .rxLen) (hr : s.now.rst = false)
    (he : s.now.chErr = false) :
    s.transfers c = if s.now.rxValid then [.rx s.now.rxData] else [] := by
  simp [State.transfers, State.cmdFire, State.cmdReady, State.busy, State.txFire, State.txValid, State.ungated,
    State.sampledErr, State.rxFire, State.rxReady, State.snkFire, State.snkValid, State.snkRoute, State.resFire,
    State.resValid, State.resRoute, State.srcFire, State.srcReady, hk, hr, he]

/-- `rx.fire` in an RX_LEN cycle without error or reset. -/
theorem State.rxFire_rxLen {s : State} {c : Command} (hk : s.ctrl = .rxLen) (hr : s.now.rst = false)
    (he : s.now.chErr = false) : s.rxFire c = s.now.rxValid := by
  simp [State.rxFire, State.rxReady, State.ungated, State.sampledErr, hk, hr, he]

/-- `rx.fire` in an RX_PAY cycle without error or reset. -/
theorem State.rxFire_rxPay {s : State} {c : Command} (hk : s.ctrl = .rxPay) (hr : s.now.rst = false)
    (he : s.sampledErr c = none) : s.rxFire c = (s.now.rxValid && s.payloadReady c) := by
  have : (Ctrl.rxPay == Ctrl.rxLen) = false := rfl
  simp [State.rxFire, State.rxReady, State.ungated, he, hk, hr, this]

/-- The transfers of an RX_PAY cycle without error or reset: the byte and, where it is routed, its passing on. -/
theorem State.transfers_rxPay {s : State} {c : Command} (hk : s.ctrl = .rxPay) (hr : s.now.rst = false)
    (he : s.sampledErr c = none) :
    s.transfers c =
      if s.now.rxValid && s.payloadReady c then
        .rx s.now.rxData ::
          (if c = .read then [.snk s.now.rxData]
            else if c ∈ [Command.fwver, .serial] then [.res s.now.rxData] else [])
      else [] := by
  cases c <;> cases hv : s.now.rxValid <;> cases hs : s.now.snkReady <;> cases hq : s.now.resReady <;>
    simp [State.transfers, State.cmdFire, State.cmdReady, State.busy, State.txFire, State.txValid, State.ungated,
      he, State.rxFire, State.rxReady, State.snkFire, State.snkValid, State.snkRoute, State.resFire,
      State.resValid, State.resRoute, State.srcFire, State.srcReady, State.payloadReady, payloadToSink,
      payloadToResult, hk, hr, hv, hs, hq]

/-- The transfers of a FILL or CRC_RUN cycle without error or reset. -/
theorem State.transfers_src {s : State} {c : Command} (hk : s.ctrl = .fill ∨ s.ctrl = .crcRun)
    (hr : s.now.rst = false) (he : s.now.srcErr = false) :
    s.transfers c =
      if s.now.srcValid then [if s.now.srcEoi then .srcEoi else .src s.now.srcData] else [] := by
  rcases hk with hk | hk <;>
    simp [State.transfers, State.cmdFire, State.cmdReady, State.busy, State.txFire, State.txValid, State.ungated,
      State.sampledErr, State.rxFire, State.rxReady, State.snkFire, State.snkValid, State.snkRoute, State.resFire,
      State.resValid, State.resRoute, State.srcFire, State.srcReady, hk, hr, he]

/-- `src.fire` in a FILL or CRC_RUN cycle without error or reset. -/
theorem State.srcFire_src {s : State} {c : Command} (hk : s.ctrl = .fill ∨ s.ctrl = .crcRun)
    (hr : s.now.rst = false) (he : s.now.srcErr = false) : s.srcFire c = s.now.srcValid := by
  rcases hk with hk | hk <;>
    simp [State.srcFire, State.srcReady, State.ungated, State.sampledErr, hk, hr, he]

/-- SETTLE and CHECK move nothing. -/
theorem State.transfers_quiet {s : State} {c : Command} (hk : s.ctrl = .settle ∨ s.ctrl = .check) :
    s.transfers c = [] := by
  rcases hk with hk | hk <;>
    simp [State.transfers, State.cmdFire, State.cmdReady, State.busy, State.txFire, State.txValid,
      State.rxFire, State.rxReady, State.snkFire, State.snkValid, State.snkRoute, State.resFire,
      State.resValid, State.resRoute, State.srcFire, State.srcReady, hk]

/-- A waiting CORE moves nothing but an accepted command. -/
theorem State.transfers_waiting {s : State} {c : Command} (hk : s.ctrl = .idle ∨ s.ctrl = .done) :
    s.transfers c = if s.cmdFire then [.cmd s.now.cmdOp s.now.cmdCount] else [] := by
  rcases hk with hk | hk <;>
    simp [State.transfers, State.txFire, State.txValid,
      State.rxFire, State.rxReady, State.snkFire, State.snkValid, State.snkRoute, State.resFire,
      State.resValid, State.resRoute, State.srcFire, State.srcReady, hk]

/-- A gated cycle moves no byte (R153, R301). -/
theorem State.transfers_gated {s : State} {c : Command} (h : s.ungated c = false) :
    s.transfers c = if s.cmdFire then [.cmd s.now.cmdOp s.now.cmdCount] else [] := by
  simp [State.transfers, State.txFire, State.txValid, State.rxFire, State.rxReady, State.snkFire, State.snkValid,
    State.resFire, State.resValid, State.srcFire, State.srcReady, h]

/-- A run whose first step gives `t` goes on from `t`. -/
theorem run_succ_of_step {s t : State} {k : Nat} (h : step s = .next t) :
    Sys2Proof.core.run (k + 1) s = Sys2Proof.core.run k t := by
  have : Sys2Proof.core.step s = .next t := h
  simp [Host.Core.run, this]

@[simp] theorem run_zero (s : State) : Sys2Proof.core.run 0 s = .next s := rfl

end Sys2Proof.Machine
end

