-- ==== Sys2Proof/Laws/Memory.lean ====
section
/-! SUPPORT. The chunk buffer: what a write does to each read, and that the canonical form is kept. -/

namespace Sys2Proof.Machine

/-- Reading the written index gives the written byte. -/
@[simp] theorem Memory.read_write_same (m : List Host.Cell) (i : Nat) (v : Byte) (lo : Nat)
    (h : Memory.wfFrom lo m = true) : Memory.read (Memory.write m i v) i = v := by
  induction m generalizing lo with
  | nil =>
    by_cases hv : v = Memory.unlisted <;> simp [Memory.write, Memory.read, hv]
  | cons cell rest ih =>
    obtain ⟨k, b⟩ := cell
    simp only [Memory.wfFrom, Bool.and_eq_true, decide_eq_true_eq] at h
    have absent : ∀ (r : List Host.Cell) (l : Nat), Memory.wfFrom l r = true → i < l →
        Memory.read r i = Memory.unlisted := by
      intro r
      induction r with
      | nil => intros; rfl
      | cons c r ih' =>
        intro l hr hl
        obtain ⟨k', b'⟩ := c
        simp only [Memory.wfFrom, Bool.and_eq_true, decide_eq_true_eq] at hr
        have : k' ≠ i := by omega
        simp [Memory.read, this, ih' (k' + 1) hr.2 (by omega)]
    by_cases h1 : i < k
    · by_cases hv : v = Memory.unlisted
      · have : k ≠ i := by omega
        simp [Memory.write, h1, hv, Memory.read, this, absent rest (k + 1) h.2 (by omega)]
      · simp [Memory.write, h1, hv, Memory.read]
    · by_cases h2 : i = k
      · subst h2
        by_cases hv : v = Memory.unlisted
        · simp [Memory.write, hv, absent rest (i + 1) h.2 (by omega)]
        · simp [Memory.write, hv, Memory.read]
      · have : k ≠ i := fun e => h2 e.symm
        simp [Memory.write, h1, h2, Memory.read, this, ih (k + 1) h.2]

/-- Reading another index gives what it gave before. -/
theorem Memory.read_write_other (m : List Host.Cell) (i j : Nat) (v : Byte) (h : j ≠ i) :
    Memory.read (Memory.write m i v) j = Memory.read m j := by
  induction m with
  | nil =>
    have : i ≠ j := fun e => h e.symm
    by_cases hv : v = Memory.unlisted <;> simp [Memory.write, Memory.read, hv, this]
  | cons cell rest ih =>
    obtain ⟨k, b⟩ := cell
    have hij : i ≠ j := fun e => h e.symm
    simp only [Memory.write]
    split
    · split <;> simp [Memory.read, hij]
    · split
      · rename_i hk
        subst hk
        split <;> simp [Memory.read, hij]
      · by_cases hkj : k = j <;> simp [Memory.read, hkj, ih]

/-- A write keeps the canonical form from any lower bound it respects. -/
theorem Memory.wfFrom_write (m : List Host.Cell) (i : Nat) (v : Byte) (lo : Nat)
    (h : Memory.wfFrom lo m = true) (hlo : lo ≤ i) (hi : i < 256) :
    Memory.wfFrom lo (Memory.write m i v) = true := by
  induction m generalizing lo with
  | nil => by_cases hv : v = Memory.unlisted <;> simp [Memory.write, Memory.wfFrom, hv, hlo, hi]
  | cons cell rest ih =>
    obtain ⟨k, b⟩ := cell
    have weaken : ∀ (r : List Host.Cell) (l l' : Nat), l' ≤ l → Memory.wfFrom l r = true →
        Memory.wfFrom l' r = true := by
      intro r l l' hl hr
      cases r with
      | nil => rfl
      | cons c r =>
        obtain ⟨k', b'⟩ := c
        simp only [Memory.wfFrom, Bool.and_eq_true, decide_eq_true_eq] at hr ⊢
        exact ⟨⟨⟨by omega, hr.1.1.2⟩, hr.1.2⟩, hr.2⟩
    simp only [Memory.wfFrom, Bool.and_eq_true, decide_eq_true_eq] at h
    by_cases h1 : i < k
    · by_cases hv : v = Memory.unlisted
      · simp [Memory.write, h1, hv, Memory.wfFrom, h]
      · simp [Memory.write, h1, hv, Memory.wfFrom, hlo, hi, h.2]
        exact ⟨h.1.1.2, by simpa using h.1.2⟩
    · by_cases h2 : i = k
      · subst h2
        by_cases hv : v = Memory.unlisted
        · simpa [Memory.write, hv] using weaken rest (i + 1) lo (by omega) h.2
        · simp [Memory.write, hv, Memory.wfFrom, hlo, hi, h.2]
      · simp only [Memory.write, h1, h2, if_false, Memory.wfFrom, Bool.and_eq_true, decide_eq_true_eq]
        exact ⟨h.1, ih (k + 1) h.2 (by omega)⟩

/-- A write keeps the canonical form of the chunk buffer. -/
theorem Memory.wf_write (m : List Host.Cell) (i : Nat) (v : Byte) (h : Memory.wf m = true) (hi : i < 256) :
    Memory.wf (Memory.write m i v) = true :=
  Memory.wfFrom_write m i v 0 h (Nat.zero_le i) hi

/-- The chunk buffer after reset is in canonical form. -/
theorem State.reset_buf_wf : Memory.wf State.reset.buf = true := rfl

end Sys2Proof.Machine
end

