-- ==== Sys2Proof/Laws/PerInstr.lean ====
section
/-! SUPPORT. Statements made for every instruction, one lemma per constructor: the shape of a frame (R81, R85, R90). -/

namespace Sys2Proof.Laws.EncodingShape

open Sys2Proof

/-- A well-formed frame has the length R90 fixes for it, and starts with its command's opcode byte (R85). -/
def Statement (i : Instr) : Prop :=
  i.wellFormed = true → (encode i).length = i.frameLength ∧ (encode i).head? = some i.command.opcode

theorem fwver : Statement .fwver := fun _ => ⟨rfl, rfl⟩
theorem halt : Statement .halt := fun _ => ⟨rfl, rfl⟩
theorem start : Statement .start := fun _ => ⟨rfl, rfl⟩
theorem cdone : Statement .cdone := fun _ => ⟨rfl, rfl⟩
theorem erase : Statement .erase := fun _ => ⟨rfl, rfl⟩
theorem serial : Statement .serial := fun _ => ⟨rfl, rfl⟩
theorem read (addr : Word) (len : Len) : Statement (.read addr len) := fun _ => ⟨rfl, rfl⟩

theorem write (addr : Word) (len : Len) (data : List Byte) : Statement (.write addr len data) := by
  intro h
  have hd : data.length = len.toNat := by simpa [Instr.wellFormed] using h
  simp [encode, addressBytes, lengthBytes, Instr.frameLength, Instr.command, hd]
  omega

theorem verify (addr : Word) (len : Len) : Statement (.verify addr len) := fun _ => ⟨rfl, rfl⟩

end Sys2Proof.Laws.EncodingShape
end

