-- ==== Sys2Proof/Laws/Rules.lean ====
section
/-! SUPPORT. What each rule of the controller leaves unchanged: one lemma per rule and field it does not write, so that
no proof unfolds the rule for it; then how errors, transfers and holds combine. -/

namespace Sys2Proof.Machine

section afterOpcode

@[simp] theorem State.afterOpcode_op (s : State) (c : Command) : (s.afterOpcode c).op = s.op := by
  unfold State.afterOpcode
  repeat' split
  all_goals rfl
@[simp] theorem State.afterOpcode_addr (s : State) (c : Command) : (s.afterOpcode c).addr = s.addr := by
  unfold State.afterOpcode
  repeat' split
  all_goals rfl
@[simp] theorem State.afterOpcode_addrCarry (s : State) (c : Command) : (s.afterOpcode c).addrCarry = s.addrCarry := by
  unfold State.afterOpcode
  repeat' split
  all_goals rfl
@[simp] theorem State.afterOpcode_remaining (s : State) (c : Command) : (s.afterOpcode c).remaining = s.remaining := by
  unfold State.afterOpcode
  repeat' split
  all_goals rfl
@[simp] theorem State.afterOpcode_chunkLen (s : State) (c : Command) : (s.afterOpcode c).chunkLen = s.chunkLen := by
  unfold State.afterOpcode
  repeat' split
  all_goals rfl
@[simp] theorem State.afterOpcode_bufIdx (s : State) (c : Command) : (s.afterOpcode c).bufIdx = s.bufIdx := by
  unfold State.afterOpcode
  repeat' split
  all_goals rfl
@[simp] theorem State.afterOpcode_buf (s : State) (c : Command) : (s.afterOpcode c).buf = s.buf := by
  unfold State.afterOpcode
  repeat' split
  all_goals rfl
@[simp] theorem State.afterOpcode_eoi (s : State) (c : Command) : (s.afterOpcode c).eoi = s.eoi := by
  unfold State.afterOpcode
  repeat' split
  all_goals rfl
@[simp] theorem State.afterOpcode_rspLen (s : State) (c : Command) : (s.afterOpcode c).rspLen = s.rspLen := by
  unfold State.afterOpcode
  repeat' split
  all_goals rfl
@[simp] theorem State.afterOpcode_rxCnt (s : State) (c : Command) : (s.afterOpcode c).rxCnt = s.rxCnt := by
  unfold State.afterOpcode
  repeat' split
  all_goals rfl
@[simp] theorem State.afterOpcode_rspB0 (s : State) (c : Command) : (s.afterOpcode c).rspB0 = s.rspB0 := by
  unfold State.afterOpcode
  repeat' split
  all_goals rfl
@[simp] theorem State.afterOpcode_devCrc (s : State) (c : Command) : (s.afterOpcode c).devCrc = s.devCrc := by
  unfold State.afterOpcode
  repeat' split
  all_goals rfl
@[simp] theorem State.afterOpcode_crc (s : State) (c : Command) : (s.afterOpcode c).crc = s.crc := by
  unfold State.afterOpcode
  repeat' split
  all_goals rfl
@[simp] theorem State.afterOpcode_settleCnt (s : State) (c : Command) : (s.afterOpcode c).settleCnt = s.settleCnt := by
  unfold State.afterOpcode
  repeat' split
  all_goals rfl
@[simp] theorem State.afterOpcode_errCode (s : State) (c : Command) : (s.afterOpcode c).errCode = s.errCode := by
  unfold State.afterOpcode
  repeat' split
  all_goals rfl
@[simp] theorem State.afterOpcode_cdoneActive (s : State) (c : Command) : (s.afterOpcode c).cdoneActive = s.cdoneActive := by
  unfold State.afterOpcode
  repeat' split
  all_goals rfl
@[simp] theorem State.afterOpcode_verifyOk (s : State) (c : Command) : (s.afterOpcode c).verifyOk = s.verifyOk := by
  unfold State.afterOpcode
  repeat' split
  all_goals rfl
@[simp] theorem State.afterOpcode_settleCycles (s : State) (c : Command) : (s.afterOpcode c).settleCycles = s.settleCycles := by
  unfold State.afterOpcode
  repeat' split
  all_goals rfl
@[simp] theorem State.afterOpcode_inputs (s : State) (c : Command) : (s.afterOpcode c).inputs = s.inputs := by
  unfold State.afterOpcode
  repeat' split
  all_goals rfl
@[simp] theorem State.afterOpcode_cycle (s : State) (c : Command) : (s.afterOpcode c).cycle = s.cycle := by
  unfold State.afterOpcode
  repeat' split
  all_goals rfl
@[simp] theorem State.afterOpcode_trace (s : State) (c : Command) : (s.afterOpcode c).trace = s.trace := by
  unfold State.afterOpcode
  repeat' split
  all_goals rfl

end afterOpcode

section afterHeaderByte

@[simp] theorem State.afterHeaderByte_op (s : State) (c : Command) : (s.afterHeaderByte c).op = s.op := by
  unfold State.afterHeaderByte
  repeat' split
  all_goals rfl
@[simp] theorem State.afterHeaderByte_addr (s : State) (c : Command) : (s.afterHeaderByte c).addr = s.addr := by
  unfold State.afterHeaderByte
  repeat' split
  all_goals rfl
@[simp] theorem State.afterHeaderByte_addrCarry (s : State) (c : Command) : (s.afterHeaderByte c).addrCarry = s.addrCarry := by
  unfold State.afterHeaderByte
  repeat' split
  all_goals rfl
@[simp] theorem State.afterHeaderByte_remaining (s : State) (c : Command) : (s.afterHeaderByte c).remaining = s.remaining := by
  unfold State.afterHeaderByte
  repeat' split
  all_goals rfl
@[simp] theorem State.afterHeaderByte_chunkLen (s : State) (c : Command) : (s.afterHeaderByte c).chunkLen = s.chunkLen := by
  unfold State.afterHeaderByte
  repeat' split
  all_goals rfl
@[simp] theorem State.afterHeaderByte_buf (s : State) (c : Command) : (s.afterHeaderByte c).buf = s.buf := by
  unfold State.afterHeaderByte
  repeat' split
  all_goals rfl
@[simp] theorem State.afterHeaderByte_eoi (s : State) (c : Command) : (s.afterHeaderByte c).eoi = s.eoi := by
  unfold State.afterHeaderByte
  repeat' split
  all_goals rfl
@[simp] theorem State.afterHeaderByte_rspLen (s : State) (c : Command) : (s.afterHeaderByte c).rspLen = s.rspLen := by
  unfold State.afterHeaderByte
  repeat' split
  all_goals rfl
@[simp] theorem State.afterHeaderByte_rxCnt (s : State) (c : Command) : (s.afterHeaderByte c).rxCnt = s.rxCnt := by
  unfold State.afterHeaderByte
  repeat' split
  all_goals rfl
@[simp] theorem State.afterHeaderByte_rspB0 (s : State) (c : Command) : (s.afterHeaderByte c).rspB0 = s.rspB0 := by
  unfold State.afterHeaderByte
  repeat' split
  all_goals rfl
@[simp] theorem State.afterHeaderByte_devCrc (s : State) (c : Command) : (s.afterHeaderByte c).devCrc = s.devCrc := by
  unfold State.afterHeaderByte
  repeat' split
  all_goals rfl
@[simp] theorem State.afterHeaderByte_crc (s : State) (c : Command) : (s.afterHeaderByte c).crc = s.crc := by
  unfold State.afterHeaderByte
  repeat' split
  all_goals rfl
@[simp] theorem State.afterHeaderByte_settleCnt (s : State) (c : Command) : (s.afterHeaderByte c).settleCnt = s.settleCnt := by
  unfold State.afterHeaderByte
  repeat' split
  all_goals rfl
@[simp] theorem State.afterHeaderByte_errCode (s : State) (c : Command) : (s.afterHeaderByte c).errCode = s.errCode := by
  unfold State.afterHeaderByte
  repeat' split
  all_goals rfl
@[simp] theorem State.afterHeaderByte_cdoneActive (s : State) (c : Command) : (s.afterHeaderByte c).cdoneActive = s.cdoneActive := by
  unfold State.afterHeaderByte
  repeat' split
  all_goals rfl
@[simp] theorem State.afterHeaderByte_verifyOk (s : State) (c : Command) : (s.afterHeaderByte c).verifyOk = s.verifyOk := by
  unfold State.afterHeaderByte
  repeat' split
  all_goals rfl
@[simp] theorem State.afterHeaderByte_settleCycles (s : State) (c : Command) : (s.afterHeaderByte c).settleCycles = s.settleCycles := by
  unfold State.afterHeaderByte
  repeat' split
  all_goals rfl
@[simp] theorem State.afterHeaderByte_inputs (s : State) (c : Command) : (s.afterHeaderByte c).inputs = s.inputs := by
  unfold State.afterHeaderByte
  repeat' split
  all_goals rfl
@[simp] theorem State.afterHeaderByte_cycle (s : State) (c : Command) : (s.afterHeaderByte c).cycle = s.cycle := by
  unfold State.afterHeaderByte
  repeat' split
  all_goals rfl
@[simp] theorem State.afterHeaderByte_trace (s : State) (c : Command) : (s.afterHeaderByte c).trace = s.trace := by
  unfold State.afterHeaderByte
  repeat' split
  all_goals rfl

end afterHeaderByte

section afterDataByte

@[simp] theorem State.afterDataByte_op (s : State) : (s.afterDataByte).op = s.op := by
  unfold State.afterDataByte
  repeat' split
  all_goals rfl
@[simp] theorem State.afterDataByte_addr (s : State) : (s.afterDataByte).addr = s.addr := by
  unfold State.afterDataByte
  repeat' split
  all_goals rfl
@[simp] theorem State.afterDataByte_addrCarry (s : State) : (s.afterDataByte).addrCarry = s.addrCarry := by
  unfold State.afterDataByte
  repeat' split
  all_goals rfl
@[simp] theorem State.afterDataByte_remaining (s : State) : (s.afterDataByte).remaining = s.remaining := by
  unfold State.afterDataByte
  repeat' split
  all_goals rfl
@[simp] theorem State.afterDataByte_chunkLen (s : State) : (s.afterDataByte).chunkLen = s.chunkLen := by
  unfold State.afterDataByte
  repeat' split
  all_goals rfl
@[simp] theorem State.afterDataByte_buf (s : State) : (s.afterDataByte).buf = s.buf := by
  unfold State.afterDataByte
  repeat' split
  all_goals rfl
@[simp] theorem State.afterDataByte_eoi (s : State) : (s.afterDataByte).eoi = s.eoi := by
  unfold State.afterDataByte
  repeat' split
  all_goals rfl
@[simp] theorem State.afterDataByte_txIdx (s : State) : (s.afterDataByte).txIdx = s.txIdx := by
  unfold State.afterDataByte
  repeat' split
  all_goals rfl
@[simp] theorem State.afterDataByte_rspLen (s : State) : (s.afterDataByte).rspLen = s.rspLen := by
  unfold State.afterDataByte
  repeat' split
  all_goals rfl
@[simp] theorem State.afterDataByte_rxCnt (s : State) : (s.afterDataByte).rxCnt = s.rxCnt := by
  unfold State.afterDataByte
  repeat' split
  all_goals rfl
@[simp] theorem State.afterDataByte_rspB0 (s : State) : (s.afterDataByte).rspB0 = s.rspB0 := by
  unfold State.afterDataByte
  repeat' split
  all_goals rfl
@[simp] theorem State.afterDataByte_devCrc (s : State) : (s.afterDataByte).devCrc = s.devCrc := by
  unfold State.afterDataByte
  repeat' split
  all_goals rfl
@[simp] theorem State.afterDataByte_crc (s : State) : (s.afterDataByte).crc = s.crc := by
  unfold State.afterDataByte
  repeat' split
  all_goals rfl
@[simp] theorem State.afterDataByte_errCode (s : State) : (s.afterDataByte).errCode = s.errCode := by
  unfold State.afterDataByte
  repeat' split
  all_goals rfl
@[simp] theorem State.afterDataByte_cdoneActive (s : State) : (s.afterDataByte).cdoneActive = s.cdoneActive := by
  unfold State.afterDataByte
  repeat' split
  all_goals rfl
@[simp] theorem State.afterDataByte_verifyOk (s : State) : (s.afterDataByte).verifyOk = s.verifyOk := by
  unfold State.afterDataByte
  repeat' split
  all_goals rfl
@[simp] theorem State.afterDataByte_settleCycles (s : State) : (s.afterDataByte).settleCycles = s.settleCycles := by
  unfold State.afterDataByte
  repeat' split
  all_goals rfl
@[simp] theorem State.afterDataByte_inputs (s : State) : (s.afterDataByte).inputs = s.inputs := by
  unfold State.afterDataByte
  repeat' split
  all_goals rfl
@[simp] theorem State.afterDataByte_cycle (s : State) : (s.afterDataByte).cycle = s.cycle := by
  unfold State.afterDataByte
  repeat' split
  all_goals rfl
@[simp] theorem State.afterDataByte_trace (s : State) : (s.afterDataByte).trace = s.trace := by
  unfold State.afterDataByte
  repeat' split
  all_goals rfl

end afterDataByte

section settleCycle

@[simp] theorem State.settleCycle_op (s : State) : (s.settleCycle).op = s.op := by
  unfold State.settleCycle
  repeat' split
  all_goals rfl
@[simp] theorem State.settleCycle_addr (s : State) : (s.settleCycle).addr = s.addr := by
  unfold State.settleCycle
  repeat' split
  all_goals rfl
@[simp] theorem State.settleCycle_addrCarry (s : State) : (s.settleCycle).addrCarry = s.addrCarry := by
  unfold State.settleCycle
  repeat' split
  all_goals rfl
@[simp] theorem State.settleCycle_remaining (s : State) : (s.settleCycle).remaining = s.remaining := by
  unfold State.settleCycle
  repeat' split
  all_goals rfl
@[simp] theorem State.settleCycle_chunkLen (s : State) : (s.settleCycle).chunkLen = s.chunkLen := by
  unfold State.settleCycle
  repeat' split
  all_goals rfl
@[simp] theorem State.settleCycle_bufIdx (s : State) : (s.settleCycle).bufIdx = s.bufIdx := by
  unfold State.settleCycle
  repeat' split
  all_goals rfl
@[simp] theorem State.settleCycle_buf (s : State) : (s.settleCycle).buf = s.buf := by
  unfold State.settleCycle
  repeat' split
  all_goals rfl
@[simp] theorem State.settleCycle_eoi (s : State) : (s.settleCycle).eoi = s.eoi := by
  unfold State.settleCycle
  repeat' split
  all_goals rfl
@[simp] theorem State.settleCycle_txIdx (s : State) : (s.settleCycle).txIdx = s.txIdx := by
  unfold State.settleCycle
  repeat' split
  all_goals rfl
@[simp] theorem State.settleCycle_rspLen (s : State) : (s.settleCycle).rspLen = s.rspLen := by
  unfold State.settleCycle
  repeat' split
  all_goals rfl
@[simp] theorem State.settleCycle_rxCnt (s : State) : (s.settleCycle).rxCnt = s.rxCnt := by
  unfold State.settleCycle
  repeat' split
  all_goals rfl
@[simp] theorem State.settleCycle_rspB0 (s : State) : (s.settleCycle).rspB0 = s.rspB0 := by
  unfold State.settleCycle
  repeat' split
  all_goals rfl
@[simp] theorem State.settleCycle_devCrc (s : State) : (s.settleCycle).devCrc = s.devCrc := by
  unfold State.settleCycle
  repeat' split
  all_goals rfl
@[simp] theorem State.settleCycle_crc (s : State) : (s.settleCycle).crc = s.crc := by
  unfold State.settleCycle
  repeat' split
  all_goals rfl
@[simp] theorem State.settleCycle_errCode (s : State) : (s.settleCycle).errCode = s.errCode := by
  unfold State.settleCycle
  repeat' split
  all_goals rfl
@[simp] theorem State.settleCycle_cdoneActive (s : State) : (s.settleCycle).cdoneActive = s.cdoneActive := by
  unfold State.settleCycle
  repeat' split
  all_goals rfl
@[simp] theorem State.settleCycle_verifyOk (s : State) : (s.settleCycle).verifyOk = s.verifyOk := by
  unfold State.settleCycle
  repeat' split
  all_goals rfl
@[simp] theorem State.settleCycle_settleCycles (s : State) : (s.settleCycle).settleCycles = s.settleCycles := by
  unfold State.settleCycle
  repeat' split
  all_goals rfl
@[simp] theorem State.settleCycle_inputs (s : State) : (s.settleCycle).inputs = s.inputs := by
  unfold State.settleCycle
  repeat' split
  all_goals rfl
@[simp] theorem State.settleCycle_cycle (s : State) : (s.settleCycle).cycle = s.cycle := by
  unfold State.settleCycle
  repeat' split
  all_goals rfl
@[simp] theorem State.settleCycle_trace (s : State) : (s.settleCycle).trace = s.trace := by
  unfold State.settleCycle
  repeat' split
  all_goals rfl

end settleCycle

section takeLength

@[simp] theorem State.takeLength_op (s : State) (c : Command) : (s.takeLength c).op = s.op := by
  unfold State.takeLength
  repeat' split
  all_goals rfl
@[simp] theorem State.takeLength_addr (s : State) (c : Command) : (s.takeLength c).addr = s.addr := by
  unfold State.takeLength
  repeat' split
  all_goals rfl
@[simp] theorem State.takeLength_addrCarry (s : State) (c : Command) : (s.takeLength c).addrCarry = s.addrCarry := by
  unfold State.takeLength
  repeat' split
  all_goals rfl
@[simp] theorem State.takeLength_remaining (s : State) (c : Command) : (s.takeLength c).remaining = s.remaining := by
  unfold State.takeLength
  repeat' split
  all_goals rfl
@[simp] theorem State.takeLength_chunkLen (s : State) (c : Command) : (s.takeLength c).chunkLen = s.chunkLen := by
  unfold State.takeLength
  repeat' split
  all_goals rfl
@[simp] theorem State.takeLength_bufIdx (s : State) (c : Command) : (s.takeLength c).bufIdx = s.bufIdx := by
  unfold State.takeLength
  repeat' split
  all_goals rfl
@[simp] theorem State.takeLength_buf (s : State) (c : Command) : (s.takeLength c).buf = s.buf := by
  unfold State.takeLength
  repeat' split
  all_goals rfl
@[simp] theorem State.takeLength_eoi (s : State) (c : Command) : (s.takeLength c).eoi = s.eoi := by
  unfold State.takeLength
  repeat' split
  all_goals rfl
@[simp] theorem State.takeLength_txIdx (s : State) (c : Command) : (s.takeLength c).txIdx = s.txIdx := by
  unfold State.takeLength
  repeat' split
  all_goals rfl
@[simp] theorem State.takeLength_rspB0 (s : State) (c : Command) : (s.takeLength c).rspB0 = s.rspB0 := by
  unfold State.takeLength
  repeat' split
  all_goals rfl
@[simp] theorem State.takeLength_devCrc (s : State) (c : Command) : (s.takeLength c).devCrc = s.devCrc := by
  unfold State.takeLength
  repeat' split
  all_goals rfl
@[simp] theorem State.takeLength_crc (s : State) (c : Command) : (s.takeLength c).crc = s.crc := by
  unfold State.takeLength
  repeat' split
  all_goals rfl
@[simp] theorem State.takeLength_settleCnt (s : State) (c : Command) : (s.takeLength c).settleCnt = s.settleCnt := by
  unfold State.takeLength
  repeat' split
  all_goals rfl
@[simp] theorem State.takeLength_cdoneActive (s : State) (c : Command) : (s.takeLength c).cdoneActive = s.cdoneActive := by
  unfold State.takeLength
  repeat' split
  all_goals rfl
@[simp] theorem State.takeLength_verifyOk (s : State) (c : Command) : (s.takeLength c).verifyOk = s.verifyOk := by
  unfold State.takeLength
  repeat' split
  all_goals rfl
@[simp] theorem State.takeLength_settleCycles (s : State) (c : Command) : (s.takeLength c).settleCycles = s.settleCycles := by
  unfold State.takeLength
  repeat' split
  all_goals rfl
@[simp] theorem State.takeLength_inputs (s : State) (c : Command) : (s.takeLength c).inputs = s.inputs := by
  unfold State.takeLength
  repeat' split
  all_goals rfl
@[simp] theorem State.takeLength_cycle (s : State) (c : Command) : (s.takeLength c).cycle = s.cycle := by
  unfold State.takeLength
  repeat' split
  all_goals rfl
@[simp] theorem State.takeLength_trace (s : State) (c : Command) : (s.takeLength c).trace = s.trace := by
  unfold State.takeLength
  repeat' split
  all_goals rfl

end takeLength

section takePayload

@[simp] theorem State.takePayload_op (s : State) (c : Command) : (s.takePayload c).op = s.op := by
  unfold State.takePayload
  repeat' split
  all_goals rfl
@[simp] theorem State.takePayload_addr (s : State) (c : Command) : (s.takePayload c).addr = s.addr := by
  unfold State.takePayload
  repeat' split
  all_goals rfl
@[simp] theorem State.takePayload_addrCarry (s : State) (c : Command) : (s.takePayload c).addrCarry = s.addrCarry := by
  unfold State.takePayload
  repeat' split
  all_goals rfl
@[simp] theorem State.takePayload_remaining (s : State) (c : Command) : (s.takePayload c).remaining = s.remaining := by
  unfold State.takePayload
  repeat' split
  all_goals rfl
@[simp] theorem State.takePayload_chunkLen (s : State) (c : Command) : (s.takePayload c).chunkLen = s.chunkLen := by
  unfold State.takePayload
  repeat' split
  all_goals rfl
@[simp] theorem State.takePayload_bufIdx (s : State) (c : Command) : (s.takePayload c).bufIdx = s.bufIdx := by
  unfold State.takePayload
  repeat' split
  all_goals rfl
@[simp] theorem State.takePayload_buf (s : State) (c : Command) : (s.takePayload c).buf = s.buf := by
  unfold State.takePayload
  repeat' split
  all_goals rfl
@[simp] theorem State.takePayload_eoi (s : State) (c : Command) : (s.takePayload c).eoi = s.eoi := by
  unfold State.takePayload
  repeat' split
  all_goals rfl
@[simp] theorem State.takePayload_txIdx (s : State) (c : Command) : (s.takePayload c).txIdx = s.txIdx := by
  unfold State.takePayload
  repeat' split
  all_goals rfl
@[simp] theorem State.takePayload_rspLen (s : State) (c : Command) : (s.takePayload c).rspLen = s.rspLen := by
  unfold State.takePayload
  repeat' split
  all_goals rfl
@[simp] theorem State.takePayload_crc (s : State) (c : Command) : (s.takePayload c).crc = s.crc := by
  unfold State.takePayload
  repeat' split
  all_goals rfl
@[simp] theorem State.takePayload_settleCnt (s : State) (c : Command) : (s.takePayload c).settleCnt = s.settleCnt := by
  unfold State.takePayload
  repeat' split
  all_goals rfl
@[simp] theorem State.takePayload_errCode (s : State) (c : Command) : (s.takePayload c).errCode = s.errCode := by
  unfold State.takePayload
  repeat' split
  all_goals rfl
@[simp] theorem State.takePayload_cdoneActive (s : State) (c : Command) : (s.takePayload c).cdoneActive = s.cdoneActive := by
  unfold State.takePayload
  repeat' split
  all_goals rfl
@[simp] theorem State.takePayload_verifyOk (s : State) (c : Command) : (s.takePayload c).verifyOk = s.verifyOk := by
  unfold State.takePayload
  repeat' split
  all_goals rfl
@[simp] theorem State.takePayload_settleCycles (s : State) (c : Command) : (s.takePayload c).settleCycles = s.settleCycles := by
  unfold State.takePayload
  repeat' split
  all_goals rfl
@[simp] theorem State.takePayload_inputs (s : State) (c : Command) : (s.takePayload c).inputs = s.inputs := by
  unfold State.takePayload
  repeat' split
  all_goals rfl
@[simp] theorem State.takePayload_cycle (s : State) (c : Command) : (s.takePayload c).cycle = s.cycle := by
  unfold State.takePayload
  repeat' split
  all_goals rfl
@[simp] theorem State.takePayload_trace (s : State) (c : Command) : (s.takePayload c).trace = s.trace := by
  unfold State.takePayload
  repeat' split
  all_goals rfl

end takePayload

section chunkReady

@[simp] theorem State.chunkReady_op (s : State) (n : Count) : (s.chunkReady n).op = s.op := by
  unfold State.chunkReady
  repeat' split
  all_goals rfl
@[simp] theorem State.chunkReady_addr (s : State) (n : Count) : (s.chunkReady n).addr = s.addr := by
  unfold State.chunkReady
  repeat' split
  all_goals rfl
@[simp] theorem State.chunkReady_addrCarry (s : State) (n : Count) : (s.chunkReady n).addrCarry = s.addrCarry := by
  unfold State.chunkReady
  repeat' split
  all_goals rfl
@[simp] theorem State.chunkReady_remaining (s : State) (n : Count) : (s.chunkReady n).remaining = s.remaining := by
  unfold State.chunkReady
  repeat' split
  all_goals rfl
@[simp] theorem State.chunkReady_bufIdx (s : State) (n : Count) : (s.chunkReady n).bufIdx = s.bufIdx := by
  unfold State.chunkReady
  repeat' split
  all_goals rfl
@[simp] theorem State.chunkReady_buf (s : State) (n : Count) : (s.chunkReady n).buf = s.buf := by
  unfold State.chunkReady
  repeat' split
  all_goals rfl
@[simp] theorem State.chunkReady_eoi (s : State) (n : Count) : (s.chunkReady n).eoi = s.eoi := by
  unfold State.chunkReady
  repeat' split
  all_goals rfl
@[simp] theorem State.chunkReady_txIdx (s : State) (n : Count) : (s.chunkReady n).txIdx = s.txIdx := by
  unfold State.chunkReady
  repeat' split
  all_goals rfl
@[simp] theorem State.chunkReady_rspLen (s : State) (n : Count) : (s.chunkReady n).rspLen = s.rspLen := by
  unfold State.chunkReady
  repeat' split
  all_goals rfl
@[simp] theorem State.chunkReady_rxCnt (s : State) (n : Count) : (s.chunkReady n).rxCnt = s.rxCnt := by
  unfold State.chunkReady
  repeat' split
  all_goals rfl
@[simp] theorem State.chunkReady_rspB0 (s : State) (n : Count) : (s.chunkReady n).rspB0 = s.rspB0 := by
  unfold State.chunkReady
  repeat' split
  all_goals rfl
@[simp] theorem State.chunkReady_devCrc (s : State) (n : Count) : (s.chunkReady n).devCrc = s.devCrc := by
  unfold State.chunkReady
  repeat' split
  all_goals rfl
@[simp] theorem State.chunkReady_crc (s : State) (n : Count) : (s.chunkReady n).crc = s.crc := by
  unfold State.chunkReady
  repeat' split
  all_goals rfl
@[simp] theorem State.chunkReady_settleCnt (s : State) (n : Count) : (s.chunkReady n).settleCnt = s.settleCnt := by
  unfold State.chunkReady
  repeat' split
  all_goals rfl
@[simp] theorem State.chunkReady_cdoneActive (s : State) (n : Count) : (s.chunkReady n).cdoneActive = s.cdoneActive := by
  unfold State.chunkReady
  repeat' split
  all_goals rfl
@[simp] theorem State.chunkReady_verifyOk (s : State) (n : Count) : (s.chunkReady n).verifyOk = s.verifyOk := by
  unfold State.chunkReady
  repeat' split
  all_goals rfl
@[simp] theorem State.chunkReady_settleCycles (s : State) (n : Count) : (s.chunkReady n).settleCycles = s.settleCycles := by
  unfold State.chunkReady
  repeat' split
  all_goals rfl
@[simp] theorem State.chunkReady_inputs (s : State) (n : Count) : (s.chunkReady n).inputs = s.inputs := by
  unfold State.chunkReady
  repeat' split
  all_goals rfl
@[simp] theorem State.chunkReady_cycle (s : State) (n : Count) : (s.chunkReady n).cycle = s.cycle := by
  unfold State.chunkReady
  repeat' split
  all_goals rfl
@[simp] theorem State.chunkReady_trace (s : State) (n : Count) : (s.chunkReady n).trace = s.trace := by
  unfold State.chunkReady
  repeat' split
  all_goals rfl

end chunkReady

section takeFill

@[simp] theorem State.takeFill_op (s : State) : (s.takeFill).op = s.op := by
  unfold State.takeFill
  repeat' split
  all_goals simp
@[simp] theorem State.takeFill_addr (s : State) : (s.takeFill).addr = s.addr := by
  unfold State.takeFill
  repeat' split
  all_goals simp
@[simp] theorem State.takeFill_addrCarry (s : State) : (s.takeFill).addrCarry = s.addrCarry := by
  unfold State.takeFill
  repeat' split
  all_goals simp
@[simp] theorem State.takeFill_remaining (s : State) : (s.takeFill).remaining = s.remaining := by
  unfold State.takeFill
  repeat' split
  all_goals simp
@[simp] theorem State.takeFill_txIdx (s : State) : (s.takeFill).txIdx = s.txIdx := by
  unfold State.takeFill
  repeat' split
  all_goals simp
@[simp] theorem State.takeFill_rspLen (s : State) : (s.takeFill).rspLen = s.rspLen := by
  unfold State.takeFill
  repeat' split
  all_goals simp
@[simp] theorem State.takeFill_rxCnt (s : State) : (s.takeFill).rxCnt = s.rxCnt := by
  unfold State.takeFill
  repeat' split
  all_goals simp
@[simp] theorem State.takeFill_rspB0 (s : State) : (s.takeFill).rspB0 = s.rspB0 := by
  unfold State.takeFill
  repeat' split
  all_goals simp
@[simp] theorem State.takeFill_devCrc (s : State) : (s.takeFill).devCrc = s.devCrc := by
  unfold State.takeFill
  repeat' split
  all_goals simp
@[simp] theorem State.takeFill_crc (s : State) : (s.takeFill).crc = s.crc := by
  unfold State.takeFill
  repeat' split
  all_goals simp
@[simp] theorem State.takeFill_settleCnt (s : State) : (s.takeFill).settleCnt = s.settleCnt := by
  unfold State.takeFill
  repeat' split
  all_goals simp
@[simp] theorem State.takeFill_cdoneActive (s : State) : (s.takeFill).cdoneActive = s.cdoneActive := by
  unfold State.takeFill
  repeat' split
  all_goals simp
@[simp] theorem State.takeFill_verifyOk (s : State) : (s.takeFill).verifyOk = s.verifyOk := by
  unfold State.takeFill
  repeat' split
  all_goals simp
@[simp] theorem State.takeFill_settleCycles (s : State) : (s.takeFill).settleCycles = s.settleCycles := by
  unfold State.takeFill
  repeat' split
  all_goals simp
@[simp] theorem State.takeFill_inputs (s : State) : (s.takeFill).inputs = s.inputs := by
  unfold State.takeFill
  repeat' split
  all_goals simp
@[simp] theorem State.takeFill_cycle (s : State) : (s.takeFill).cycle = s.cycle := by
  unfold State.takeFill
  repeat' split
  all_goals simp
@[simp] theorem State.takeFill_trace (s : State) : (s.takeFill).trace = s.trace := by
  unfold State.takeFill
  repeat' split
  all_goals simp

end takeFill

section takeCrc

@[simp] theorem State.takeCrc_op (s : State) : (s.takeCrc).op = s.op := by
  unfold State.takeCrc
  repeat' split
  all_goals rfl
@[simp] theorem State.takeCrc_addr (s : State) : (s.takeCrc).addr = s.addr := by
  unfold State.takeCrc
  repeat' split
  all_goals rfl
@[simp] theorem State.takeCrc_addrCarry (s : State) : (s.takeCrc).addrCarry = s.addrCarry := by
  unfold State.takeCrc
  repeat' split
  all_goals rfl
@[simp] theorem State.takeCrc_remaining (s : State) : (s.takeCrc).remaining = s.remaining := by
  unfold State.takeCrc
  repeat' split
  all_goals rfl
@[simp] theorem State.takeCrc_chunkLen (s : State) : (s.takeCrc).chunkLen = s.chunkLen := by
  unfold State.takeCrc
  repeat' split
  all_goals rfl
@[simp] theorem State.takeCrc_bufIdx (s : State) : (s.takeCrc).bufIdx = s.bufIdx := by
  unfold State.takeCrc
  repeat' split
  all_goals rfl
@[simp] theorem State.takeCrc_buf (s : State) : (s.takeCrc).buf = s.buf := by
  unfold State.takeCrc
  repeat' split
  all_goals rfl
@[simp] theorem State.takeCrc_eoi (s : State) : (s.takeCrc).eoi = s.eoi := by
  unfold State.takeCrc
  repeat' split
  all_goals rfl
@[simp] theorem State.takeCrc_txIdx (s : State) : (s.takeCrc).txIdx = s.txIdx := by
  unfold State.takeCrc
  repeat' split
  all_goals rfl
@[simp] theorem State.takeCrc_rspLen (s : State) : (s.takeCrc).rspLen = s.rspLen := by
  unfold State.takeCrc
  repeat' split
  all_goals rfl
@[simp] theorem State.takeCrc_rxCnt (s : State) : (s.takeCrc).rxCnt = s.rxCnt := by
  unfold State.takeCrc
  repeat' split
  all_goals rfl
@[simp] theorem State.takeCrc_rspB0 (s : State) : (s.takeCrc).rspB0 = s.rspB0 := by
  unfold State.takeCrc
  repeat' split
  all_goals rfl
@[simp] theorem State.takeCrc_devCrc (s : State) : (s.takeCrc).devCrc = s.devCrc := by
  unfold State.takeCrc
  repeat' split
  all_goals rfl
@[simp] theorem State.takeCrc_settleCnt (s : State) : (s.takeCrc).settleCnt = s.settleCnt := by
  unfold State.takeCrc
  repeat' split
  all_goals rfl
@[simp] theorem State.takeCrc_errCode (s : State) : (s.takeCrc).errCode = s.errCode := by
  unfold State.takeCrc
  repeat' split
  all_goals rfl
@[simp] theorem State.takeCrc_cdoneActive (s : State) : (s.takeCrc).cdoneActive = s.cdoneActive := by
  unfold State.takeCrc
  repeat' split
  all_goals rfl
@[simp] theorem State.takeCrc_verifyOk (s : State) : (s.takeCrc).verifyOk = s.verifyOk := by
  unfold State.takeCrc
  repeat' split
  all_goals rfl
@[simp] theorem State.takeCrc_settleCycles (s : State) : (s.takeCrc).settleCycles = s.settleCycles := by
  unfold State.takeCrc
  repeat' split
  all_goals rfl
@[simp] theorem State.takeCrc_inputs (s : State) : (s.takeCrc).inputs = s.inputs := by
  unfold State.takeCrc
  repeat' split
  all_goals rfl
@[simp] theorem State.takeCrc_cycle (s : State) : (s.takeCrc).cycle = s.cycle := by
  unfold State.takeCrc
  repeat' split
  all_goals rfl
@[simp] theorem State.takeCrc_trace (s : State) : (s.takeCrc).trace = s.trace := by
  unfold State.takeCrc
  repeat' split
  all_goals rfl

end takeCrc

section checkMarker

@[simp] theorem State.checkMarker_op (s : State) (m : Byte) : (s.checkMarker m).op = s.op := by
  unfold State.checkMarker
  repeat' split
  all_goals rfl
@[simp] theorem State.checkMarker_addr (s : State) (m : Byte) : (s.checkMarker m).addr = s.addr := by
  unfold State.checkMarker
  repeat' split
  all_goals rfl
@[simp] theorem State.checkMarker_addrCarry (s : State) (m : Byte) : (s.checkMarker m).addrCarry = s.addrCarry := by
  unfold State.checkMarker
  repeat' split
  all_goals rfl
@[simp] theorem State.checkMarker_remaining (s : State) (m : Byte) : (s.checkMarker m).remaining = s.remaining := by
  unfold State.checkMarker
  repeat' split
  all_goals rfl
@[simp] theorem State.checkMarker_chunkLen (s : State) (m : Byte) : (s.checkMarker m).chunkLen = s.chunkLen := by
  unfold State.checkMarker
  repeat' split
  all_goals rfl
@[simp] theorem State.checkMarker_bufIdx (s : State) (m : Byte) : (s.checkMarker m).bufIdx = s.bufIdx := by
  unfold State.checkMarker
  repeat' split
  all_goals rfl
@[simp] theorem State.checkMarker_buf (s : State) (m : Byte) : (s.checkMarker m).buf = s.buf := by
  unfold State.checkMarker
  repeat' split
  all_goals rfl
@[simp] theorem State.checkMarker_eoi (s : State) (m : Byte) : (s.checkMarker m).eoi = s.eoi := by
  unfold State.checkMarker
  repeat' split
  all_goals rfl
@[simp] theorem State.checkMarker_txIdx (s : State) (m : Byte) : (s.checkMarker m).txIdx = s.txIdx := by
  unfold State.checkMarker
  repeat' split
  all_goals rfl
@[simp] theorem State.checkMarker_rspLen (s : State) (m : Byte) : (s.checkMarker m).rspLen = s.rspLen := by
  unfold State.checkMarker
  repeat' split
  all_goals rfl
@[simp] theorem State.checkMarker_rxCnt (s : State) (m : Byte) : (s.checkMarker m).rxCnt = s.rxCnt := by
  unfold State.checkMarker
  repeat' split
  all_goals rfl
@[simp] theorem State.checkMarker_rspB0 (s : State) (m : Byte) : (s.checkMarker m).rspB0 = s.rspB0 := by
  unfold State.checkMarker
  repeat' split
  all_goals rfl
@[simp] theorem State.checkMarker_devCrc (s : State) (m : Byte) : (s.checkMarker m).devCrc = s.devCrc := by
  unfold State.checkMarker
  repeat' split
  all_goals rfl
@[simp] theorem State.checkMarker_crc (s : State) (m : Byte) : (s.checkMarker m).crc = s.crc := by
  unfold State.checkMarker
  repeat' split
  all_goals rfl
@[simp] theorem State.checkMarker_settleCnt (s : State) (m : Byte) : (s.checkMarker m).settleCnt = s.settleCnt := by
  unfold State.checkMarker
  repeat' split
  all_goals rfl
@[simp] theorem State.checkMarker_cdoneActive (s : State) (m : Byte) : (s.checkMarker m).cdoneActive = s.cdoneActive := by
  unfold State.checkMarker
  repeat' split
  all_goals rfl
@[simp] theorem State.checkMarker_verifyOk (s : State) (m : Byte) : (s.checkMarker m).verifyOk = s.verifyOk := by
  unfold State.checkMarker
  repeat' split
  all_goals rfl
@[simp] theorem State.checkMarker_settleCycles (s : State) (m : Byte) : (s.checkMarker m).settleCycles = s.settleCycles := by
  unfold State.checkMarker
  repeat' split
  all_goals rfl
@[simp] theorem State.checkMarker_inputs (s : State) (m : Byte) : (s.checkMarker m).inputs = s.inputs := by
  unfold State.checkMarker
  repeat' split
  all_goals rfl
@[simp] theorem State.checkMarker_cycle (s : State) (m : Byte) : (s.checkMarker m).cycle = s.cycle := by
  unfold State.checkMarker
  repeat' split
  all_goals rfl
@[simp] theorem State.checkMarker_trace (s : State) (m : Byte) : (s.checkMarker m).trace = s.trace := by
  unfold State.checkMarker
  repeat' split
  all_goals rfl

end checkMarker

section checkCdone

@[simp] theorem State.checkCdone_op (s : State) : (s.checkCdone).op = s.op := by
  unfold State.checkCdone
  repeat' split
  all_goals rfl
@[simp] theorem State.checkCdone_addr (s : State) : (s.checkCdone).addr = s.addr := by
  unfold State.checkCdone
  repeat' split
  all_goals rfl
@[simp] theorem State.checkCdone_addrCarry (s : State) : (s.checkCdone).addrCarry = s.addrCarry := by
  unfold State.checkCdone
  repeat' split
  all_goals rfl
@[simp] theorem State.checkCdone_remaining (s : State) : (s.checkCdone).remaining = s.remaining := by
  unfold State.checkCdone
  repeat' split
  all_goals rfl
@[simp] theorem State.checkCdone_chunkLen (s : State) : (s.checkCdone).chunkLen = s.chunkLen := by
  unfold State.checkCdone
  repeat' split
  all_goals rfl
@[simp] theorem State.checkCdone_bufIdx (s : State) : (s.checkCdone).bufIdx = s.bufIdx := by
  unfold State.checkCdone
  repeat' split
  all_goals rfl
@[simp] theorem State.checkCdone_buf (s : State) : (s.checkCdone).buf = s.buf := by
  unfold State.checkCdone
  repeat' split
  all_goals rfl
@[simp] theorem State.checkCdone_eoi (s : State) : (s.checkCdone).eoi = s.eoi := by
  unfold State.checkCdone
  repeat' split
  all_goals rfl
@[simp] theorem State.checkCdone_txIdx (s : State) : (s.checkCdone).txIdx = s.txIdx := by
  unfold State.checkCdone
  repeat' split
  all_goals rfl
@[simp] theorem State.checkCdone_rspLen (s : State) : (s.checkCdone).rspLen = s.rspLen := by
  unfold State.checkCdone
  repeat' split
  all_goals rfl
@[simp] theorem State.checkCdone_rxCnt (s : State) : (s.checkCdone).rxCnt = s.rxCnt := by
  unfold State.checkCdone
  repeat' split
  all_goals rfl
@[simp] theorem State.checkCdone_rspB0 (s : State) : (s.checkCdone).rspB0 = s.rspB0 := by
  unfold State.checkCdone
  repeat' split
  all_goals rfl
@[simp] theorem State.checkCdone_devCrc (s : State) : (s.checkCdone).devCrc = s.devCrc := by
  unfold State.checkCdone
  repeat' split
  all_goals rfl
@[simp] theorem State.checkCdone_crc (s : State) : (s.checkCdone).crc = s.crc := by
  unfold State.checkCdone
  repeat' split
  all_goals rfl
@[simp] theorem State.checkCdone_settleCnt (s : State) : (s.checkCdone).settleCnt = s.settleCnt := by
  unfold State.checkCdone
  repeat' split
  all_goals rfl
@[simp] theorem State.checkCdone_verifyOk (s : State) : (s.checkCdone).verifyOk = s.verifyOk := by
  unfold State.checkCdone
  repeat' split
  all_goals rfl
@[simp] theorem State.checkCdone_settleCycles (s : State) : (s.checkCdone).settleCycles = s.settleCycles := by
  unfold State.checkCdone
  repeat' split
  all_goals rfl
@[simp] theorem State.checkCdone_inputs (s : State) : (s.checkCdone).inputs = s.inputs := by
  unfold State.checkCdone
  repeat' split
  all_goals rfl
@[simp] theorem State.checkCdone_cycle (s : State) : (s.checkCdone).cycle = s.cycle := by
  unfold State.checkCdone
  repeat' split
  all_goals rfl
@[simp] theorem State.checkCdone_trace (s : State) : (s.checkCdone).trace = s.trace := by
  unfold State.checkCdone
  repeat' split
  all_goals rfl

end checkCdone

section checkRead

@[simp] theorem State.checkRead_op (s : State) : (s.checkRead).op = s.op := by
  unfold State.checkRead
  repeat' split
  all_goals rfl
@[simp] theorem State.checkRead_bufIdx (s : State) : (s.checkRead).bufIdx = s.bufIdx := by
  unfold State.checkRead
  repeat' split
  all_goals rfl
@[simp] theorem State.checkRead_buf (s : State) : (s.checkRead).buf = s.buf := by
  unfold State.checkRead
  repeat' split
  all_goals rfl
@[simp] theorem State.checkRead_eoi (s : State) : (s.checkRead).eoi = s.eoi := by
  unfold State.checkRead
  repeat' split
  all_goals rfl
@[simp] theorem State.checkRead_txIdx (s : State) : (s.checkRead).txIdx = s.txIdx := by
  unfold State.checkRead
  repeat' split
  all_goals rfl
@[simp] theorem State.checkRead_rspLen (s : State) : (s.checkRead).rspLen = s.rspLen := by
  unfold State.checkRead
  repeat' split
  all_goals rfl
@[simp] theorem State.checkRead_rxCnt (s : State) : (s.checkRead).rxCnt = s.rxCnt := by
  unfold State.checkRead
  repeat' split
  all_goals rfl
@[simp] theorem State.checkRead_rspB0 (s : State) : (s.checkRead).rspB0 = s.rspB0 := by
  unfold State.checkRead
  repeat' split
  all_goals rfl
@[simp] theorem State.checkRead_devCrc (s : State) : (s.checkRead).devCrc = s.devCrc := by
  unfold State.checkRead
  repeat' split
  all_goals rfl
@[simp] theorem State.checkRead_crc (s : State) : (s.checkRead).crc = s.crc := by
  unfold State.checkRead
  repeat' split
  all_goals rfl
@[simp] theorem State.checkRead_settleCnt (s : State) : (s.checkRead).settleCnt = s.settleCnt := by
  unfold State.checkRead
  repeat' split
  all_goals rfl
@[simp] theorem State.checkRead_errCode (s : State) : (s.checkRead).errCode = s.errCode := by
  unfold State.checkRead
  repeat' split
  all_goals rfl
@[simp] theorem State.checkRead_cdoneActive (s : State) : (s.checkRead).cdoneActive = s.cdoneActive := by
  unfold State.checkRead
  repeat' split
  all_goals rfl
@[simp] theorem State.checkRead_verifyOk (s : State) : (s.checkRead).verifyOk = s.verifyOk := by
  unfold State.checkRead
  repeat' split
  all_goals rfl
@[simp] theorem State.checkRead_settleCycles (s : State) : (s.checkRead).settleCycles = s.settleCycles := by
  unfold State.checkRead
  repeat' split
  all_goals rfl
@[simp] theorem State.checkRead_inputs (s : State) : (s.checkRead).inputs = s.inputs := by
  unfold State.checkRead
  repeat' split
  all_goals rfl
@[simp] theorem State.checkRead_cycle (s : State) : (s.checkRead).cycle = s.cycle := by
  unfold State.checkRead
  repeat' split
  all_goals rfl
@[simp] theorem State.checkRead_trace (s : State) : (s.checkRead).trace = s.trace := by
  unfold State.checkRead
  repeat' split
  all_goals rfl

end checkRead

section checkWrite

@[simp] theorem State.checkWrite_op (s : State) : (s.checkWrite).op = s.op := by
  unfold State.checkWrite
  repeat' split
  all_goals rfl
@[simp] theorem State.checkWrite_remaining (s : State) : (s.checkWrite).remaining = s.remaining := by
  unfold State.checkWrite
  repeat' split
  all_goals rfl
@[simp] theorem State.checkWrite_chunkLen (s : State) : (s.checkWrite).chunkLen = s.chunkLen := by
  unfold State.checkWrite
  repeat' split
  all_goals rfl
@[simp] theorem State.checkWrite_buf (s : State) : (s.checkWrite).buf = s.buf := by
  unfold State.checkWrite
  repeat' split
  all_goals rfl
@[simp] theorem State.checkWrite_eoi (s : State) : (s.checkWrite).eoi = s.eoi := by
  unfold State.checkWrite
  repeat' split
  all_goals rfl
@[simp] theorem State.checkWrite_txIdx (s : State) : (s.checkWrite).txIdx = s.txIdx := by
  unfold State.checkWrite
  repeat' split
  all_goals rfl
@[simp] theorem State.checkWrite_rspLen (s : State) : (s.checkWrite).rspLen = s.rspLen := by
  unfold State.checkWrite
  repeat' split
  all_goals rfl
@[simp] theorem State.checkWrite_rxCnt (s : State) : (s.checkWrite).rxCnt = s.rxCnt := by
  unfold State.checkWrite
  repeat' split
  all_goals rfl
@[simp] theorem State.checkWrite_rspB0 (s : State) : (s.checkWrite).rspB0 = s.rspB0 := by
  unfold State.checkWrite
  repeat' split
  all_goals rfl
@[simp] theorem State.checkWrite_devCrc (s : State) : (s.checkWrite).devCrc = s.devCrc := by
  unfold State.checkWrite
  repeat' split
  all_goals rfl
@[simp] theorem State.checkWrite_crc (s : State) : (s.checkWrite).crc = s.crc := by
  unfold State.checkWrite
  repeat' split
  all_goals rfl
@[simp] theorem State.checkWrite_settleCnt (s : State) : (s.checkWrite).settleCnt = s.settleCnt := by
  unfold State.checkWrite
  repeat' split
  all_goals rfl
@[simp] theorem State.checkWrite_cdoneActive (s : State) : (s.checkWrite).cdoneActive = s.cdoneActive := by
  unfold State.checkWrite
  repeat' split
  all_goals rfl
@[simp] theorem State.checkWrite_verifyOk (s : State) : (s.checkWrite).verifyOk = s.verifyOk := by
  unfold State.checkWrite
  repeat' split
  all_goals rfl
@[simp] theorem State.checkWrite_settleCycles (s : State) : (s.checkWrite).settleCycles = s.settleCycles := by
  unfold State.checkWrite
  repeat' split
  all_goals rfl
@[simp] theorem State.checkWrite_inputs (s : State) : (s.checkWrite).inputs = s.inputs := by
  unfold State.checkWrite
  repeat' split
  all_goals rfl
@[simp] theorem State.checkWrite_cycle (s : State) : (s.checkWrite).cycle = s.cycle := by
  unfold State.checkWrite
  repeat' split
  all_goals rfl
@[simp] theorem State.checkWrite_trace (s : State) : (s.checkWrite).trace = s.trace := by
  unfold State.checkWrite
  repeat' split
  all_goals rfl

end checkWrite

section checkVerify

@[simp] theorem State.checkVerify_op (s : State) : (s.checkVerify).op = s.op := by
  unfold State.checkVerify
  repeat' split
  all_goals rfl
@[simp] theorem State.checkVerify_addr (s : State) : (s.checkVerify).addr = s.addr := by
  unfold State.checkVerify
  repeat' split
  all_goals rfl
@[simp] theorem State.checkVerify_addrCarry (s : State) : (s.checkVerify).addrCarry = s.addrCarry := by
  unfold State.checkVerify
  repeat' split
  all_goals rfl
@[simp] theorem State.checkVerify_remaining (s : State) : (s.checkVerify).remaining = s.remaining := by
  unfold State.checkVerify
  repeat' split
  all_goals rfl
@[simp] theorem State.checkVerify_chunkLen (s : State) : (s.checkVerify).chunkLen = s.chunkLen := by
  unfold State.checkVerify
  repeat' split
  all_goals rfl
@[simp] theorem State.checkVerify_bufIdx (s : State) : (s.checkVerify).bufIdx = s.bufIdx := by
  unfold State.checkVerify
  repeat' split
  all_goals rfl
@[simp] theorem State.checkVerify_buf (s : State) : (s.checkVerify).buf = s.buf := by
  unfold State.checkVerify
  repeat' split
  all_goals rfl
@[simp] theorem State.checkVerify_eoi (s : State) : (s.checkVerify).eoi = s.eoi := by
  unfold State.checkVerify
  repeat' split
  all_goals rfl
@[simp] theorem State.checkVerify_txIdx (s : State) : (s.checkVerify).txIdx = s.txIdx := by
  unfold State.checkVerify
  repeat' split
  all_goals rfl
@[simp] theorem State.checkVerify_rspLen (s : State) : (s.checkVerify).rspLen = s.rspLen := by
  unfold State.checkVerify
  repeat' split
  all_goals rfl
@[simp] theorem State.checkVerify_rxCnt (s : State) : (s.checkVerify).rxCnt = s.rxCnt := by
  unfold State.checkVerify
  repeat' split
  all_goals rfl
@[simp] theorem State.checkVerify_rspB0 (s : State) : (s.checkVerify).rspB0 = s.rspB0 := by
  unfold State.checkVerify
  repeat' split
  all_goals rfl
@[simp] theorem State.checkVerify_devCrc (s : State) : (s.checkVerify).devCrc = s.devCrc := by
  unfold State.checkVerify
  repeat' split
  all_goals rfl
@[simp] theorem State.checkVerify_crc (s : State) : (s.checkVerify).crc = s.crc := by
  unfold State.checkVerify
  repeat' split
  all_goals rfl
@[simp] theorem State.checkVerify_settleCnt (s : State) : (s.checkVerify).settleCnt = s.settleCnt := by
  unfold State.checkVerify
  repeat' split
  all_goals rfl
@[simp] theorem State.checkVerify_cdoneActive (s : State) : (s.checkVerify).cdoneActive = s.cdoneActive := by
  unfold State.checkVerify
  repeat' split
  all_goals rfl
@[simp] theorem State.checkVerify_settleCycles (s : State) : (s.checkVerify).settleCycles = s.settleCycles := by
  unfold State.checkVerify
  repeat' split
  all_goals rfl
@[simp] theorem State.checkVerify_inputs (s : State) : (s.checkVerify).inputs = s.inputs := by
  unfold State.checkVerify
  repeat' split
  all_goals rfl
@[simp] theorem State.checkVerify_cycle (s : State) : (s.checkVerify).cycle = s.cycle := by
  unfold State.checkVerify
  repeat' split
  all_goals rfl
@[simp] theorem State.checkVerify_trace (s : State) : (s.checkVerify).trace = s.trace := by
  unfold State.checkVerify
  repeat' split
  all_goals rfl

end checkVerify

/-- A field that neither an error nor the action writes is kept by a state that waits on a transfer. -/
theorem State.onTransfer_keeps {α : Type} (g : State → α) {s act : State} {c : Command} {fire : Bool}
    (hraise : ∀ e, g (s.raise e) = g s) (hact : g act = g s) : g (s.onTransfer c fire act) = g s := by
  unfold State.onTransfer
  split
  · exact hraise _
  · split
    · exact hact
    · rfl

/-- A state that waits on a transfer raises, acts or holds. -/
theorem State.onTransfer_cases (s act : State) (c : Command) (fire : Bool) :
    (∃ e, s.sampledErr c = some e ∧ s.onTransfer c fire act = s.raise e) ∨
      (s.sampledErr c = none ∧ fire = true ∧ s.onTransfer c fire act = act) ∨
      (s.sampledErr c = none ∧ fire = false ∧ s.onTransfer c fire act = s) := by
  unfold State.onTransfer
  cases h : s.sampledErr c with
  | some e => exact .inl ⟨e, rfl, rfl⟩
  | none => cases fire <;> simp

/-- Where the command a length byte is accepted for has an error code to write, the byte was not accepted. -/
theorem State.takeLength_errCode (s : State) (c : Command) :
    (s.takeLength c).errCode = if s.lenOk c s.now.rxData then s.errCode else .protocol := by
  unfold State.takeLength
  split <;> rfl

/-- Where RX_LEN goes once the length byte is taken (R131). -/
theorem State.takeLength_ctrl (s : State) (c : Command) :
    (s.takeLength c).ctrl =
      if s.lenOk c s.now.rxData then (if s.pcount c s.now.rxData = 0#9 then .check else .rxPay) else .done := by
  unfold State.takeLength
  split <;> rfl

/-- The payload count is recorded, or the rejected byte (R131). -/
theorem State.takeLength_rspLen (s : State) (c : Command) :
    (s.takeLength c).rspLen =
      if s.lenOk c s.now.rxData then s.pcount c s.now.rxData else s.now.rxData.setWidth 9 := by
  unfold State.takeLength
  split <;> rfl

/-- The payload counter starts at 0 where the length byte is accepted (R131). -/
theorem State.takeLength_rxCnt (s : State) (c : Command) :
    (s.takeLength c).rxCnt = if s.lenOk c s.now.rxData then 0#9 else s.rxCnt := by
  unfold State.takeLength
  split <;> rfl

/-- Where RX_PAY goes once a payload byte is taken (R134). -/
theorem State.takePayload_ctrl (s : State) (c : Command) :
    (s.takePayload c).ctrl = if s.rxCnt.toNat + 1 = s.rspLen.toNat then .check else s.ctrl := by
  unfold State.takePayload
  split <;> rfl

/-- The payload counter counts every byte but the last (R134). -/
theorem State.takePayload_rxCnt (s : State) (c : Command) :
    (s.takePayload c).rxCnt = if s.rxCnt.toNat + 1 = s.rspLen.toNat then s.rxCnt else s.rxCnt + 1#9 := by
  unfold State.takePayload
  split <;> rfl

/-- A payload byte is captured whichever byte it is (R136). -/
theorem State.takePayload_rspB0 (s : State) (c : Command) :
    (s.takePayload c).rspB0 = if s.rxCnt = 0#9 then s.now.rxData else s.rspB0 := by
  unfold State.takePayload
  split <;> rfl

/-- VERIFY shifts every payload byte into the digest (R136). -/
theorem State.takePayload_devCrc (s : State) (c : Command) :
    (s.takePayload c).devCrc = if c = .verify then s.devCrc.setWidth 24 ++ s.now.rxData else s.devCrc := by
  unfold State.takePayload
  split <;> rfl

/-- The only write of FILL to the chunk buffer: a data token at `buf_idx[7:0]` (R250). -/
theorem State.takeFill_buf (s : State) :
    s.takeFill.buf = if s.now.srcEoi then s.buf else Memory.write s.buf s.fillIndex s.now.srcData := by
  unfold State.takeFill
  repeat' split
  all_goals simp

end Sys2Proof.Machine
end

