-- ==== Sys2Proof/Tests/Slice0.lean ====
section
/-! SUPPORT. Tests with values from 95_test_vectors.md, the well-formedness smoke test, and for every statement with
hypotheses a concrete witness that meets them. -/

namespace Sys2Proof.Tests

open Sys2Proof Sys2Proof.Machine

/-! ## Decoding: frames written out from the spec's encodings (30_encoding.md R85, 95_test_vectors.md E0, E1). The words
of decodeTableWord have the first byte in bits 7 to 0, the model's choice (log entry 19). -/

theorem test_decode_fwver : decodeTableWord 8 0b00100001 = some .fwver := by decide
theorem test_decode_halt : decodeTableWord 8 0b01101000 = some .halt := by decide
theorem test_decode_start : decodeTableWord 8 0b01100111 = some .start := by decide
theorem test_decode_cdone : decodeTableWord 8 0b01100011 = some .cdone := by decide
theorem test_decode_erase : decodeTableWord 8 0b01100101 = some .erase := by decide
theorem test_decode_serial : decodeTableWord 8 0b01110011 = some .serial := by decide
/-- E1: bytes 72 12 34 56 78 AB CD, the first in bits 7 to 0. -/
theorem test_decode_read :
    decodeTableWord 56 0xCDAB7856341272 = some (.read 0x12345678#32 0xABCD#16) := by decide
/-- E1: bytes 77 00 00 01 00 00 02 AA 55. -/
theorem test_decode_write :
    decodeTableWord 72 0x55AA02000001000077 = some (.write 0x100#32 2#16 [0xAA#8, 0x55#8]) := by decide
/-- E1: bytes 74 00 00 00 00 00 09. -/
theorem test_decode_verify : decodeTableWord 56 0x09000000000074 = some (.verify 0#32 9#16) := by decide
/-- A row that gives the opcode byte alone has address, length and data bits of 0. -/
theorem test_decode_short_word :
    decodeTableWord 8 0x72 = some (.read 0#32 0#16) ∧ decodeTableWord 8 0x77 = some (.write 0#32 0#16 []) ∧
      decodeTableWord 8 0x74 = some (.verify 0#32 0#16) := by decide
/-- The bit view of R82: E1's words with the first byte most significant, the opcode in H[55:48]. -/
theorem test_decode_bit_view :
    decodeEncodingWord 56 0x7212345678ABCD = some (.read 0x12345678#32 0xABCD#16) ∧
      decodeEncodingWord 72 0x77000001000002AA55 = some (.write 0x100#32 2#16 [0xAA#8, 0x55#8]) ∧
      decodeEncodingWord 8 0x68 = some .halt ∧ decodeEncodingWord 56 0x21000000000000 = none := by decide
theorem test_header_view :
    headerView [0x72#8, 0x12#8, 0x34#8, 0x56#8, 0x78#8, 0xAB#8, 0xCD#8] = some 0x7212345678ABCD#56 ∧
      viewAddress 0x7212345678ABCD#56 = 0x12345678#32 ∧ viewLength 0x7212345678ABCD#56 = 0xABCD#16 := by decide
theorem test_decode_rejects :
    decode [] = .error .noBytes ∧ decode [0x52#8] = .error (.reservedOpcode 0x52#8) ∧
      decode [0x72#8, 0#8] = .error .shortHeader ∧
      decode [0x77#8, 0#8, 0#8, 0#8, 0#8, 0#8, 2#8, 1#8] = .error .shortData := by decide
theorem test_encode_read :
    encode (.read 0x100#32 256#16) = [0x72#8, 0x00#8, 0x00#8, 0x01#8, 0x00#8, 0x01#8, 0x00#8] := by decide

/-! ## Well-formedness: an ill-formed term for each check -/

theorem test_wellFormed_data_count : Instr.wellFormed (.write 0#32 3#16 [1#8, 2#8]) = false := by decide
theorem test_sendable_alignment :
    Instr.sendable (.read 0x101#32 1#16) = false ∧ Instr.sendable (.write 1#32 1#16 [0#8]) = false := by decide
theorem test_sendable_empty :
    Instr.sendable (.read 0#32 0#16) = false ∧ Instr.sendable (.write 0#32 0#16 []) = false := by decide
theorem test_sendable_too_long :
    Instr.sendable (.read 0#32 257#16) = false ∧ Instr.sendable (.write 0#32 257#16 []) = false := by decide
theorem test_sendable_data_count : Instr.sendable (.write 0#32 2#16 [0#8]) = false := by decide
theorem test_sendable_verify_address : Instr.sendable (.verify 256#32 1#16) = false := by decide
theorem test_offerable_address :
    Instr.offerable (.read 256#32 1#16) = false ∧ Instr.offerable (.verify 1#32 1#16) = false ∧
      Instr.offerable (.write 256#32 0#16 []) = false := by decide
theorem test_offerable_data :
    Instr.offerable (.write 0#32 1#16 []) = false ∧ Instr.offerable (.write 0#32 0#16 [0#8]) = false := by decide

/-! ## Small states -/

/-- The reset state with a controller state, an operation select, SETTLE_CYCLES = 3 and a script of inputs. -/
def sys (k : Ctrl) (op : BitVec 4) (script : List Inputs) : State :=
  { State.reset with ctrl := k, op := op, settleCycles := 3, inputs := script }

/-- The state after one cycle, where there is one. -/
def after (s : State) : Option State :=
  match step s with
  | .next t => some t
  | .fault _ => none
  | .refused _ => none

/-- A cycle in which the caller offers a select value and a count. -/
def offer (op : BitVec 4) (count : Len) : Inputs := { cmdValid := true, cmdOp := op, cmdCount := count }

/-- A cycle in which the adapter takes a byte. -/
def take : Inputs := { txReady := true }

/-- A cycle in which the device answers with a byte and both destinations are ready. -/
def answer (b : Byte) : Inputs := { rxValid := true, rxData := b, snkReady := true, resReady := true }

/-- A cycle in which the source offers a data byte. -/
def data (b : Byte) : Inputs := { srcValid := true, srcData := b }

/-- A cycle in which the source offers the end-of-input token. -/
def finalToken : Inputs := { srcValid := true, srcEoi := true }

/-- A cycle in which nothing happens. -/
def quiet : Inputs := {}

/-- A running READ of 600 bytes at its first chunk (E3). -/
def reading (k : Ctrl) (script : List Inputs) : State :=
  { sys k 6#4 script with remaining := 600#16, chunkLen := 256#9 }

/-- A running WRITE with the two bytes of E1 at address 0x100, at end of input. -/
def writing (k : Ctrl) (script : List Inputs) : State :=
  { sys k 7#4 script with
    addr := 0x100#32, chunkLen := 2#9, eoi := true, buf := [(0, 0xAA#8), (1, 0x55#8)] }

/-- A running VERIFY of 9 bytes after the image "123456789" (E5). -/
def verifying (k : Ctrl) (script : List Inputs) : State :=
  { sys k 8#4 script with remaining := 9#16, crc := 0x340BC6D9#32 }

/-! ## One step of each instruction (95_test_vectors.md V1 to V10) -/

/-- The host's probe: the placed word runs as the first instruction after reset. -/
theorem test_placed_word_runs :
    (step (State.reset.withFetchWord 8 0x21) matches .next _) = true ∧
      (step (State.reset.withFetchWord 8 0x72) matches .next _) = true ∧
      (step (State.reset.withFetchWord 8 0x77) matches .next _) = true := by decide

/-- FWVER sends 0x21 (V1). -/
theorem test_fwver_opcode :
    (after (sys .txOp 0#4 [take])).map (fun t => (t.ctrl, t.trace)) = some (.rxLen, [.tx 0x21#8]) := by decide
/-- FWVER accepts length 0 and goes straight to CHECK (V2). -/
theorem test_fwver_empty_answer :
    (after (sys .rxLen 0#4 [answer 0#8])).map (fun t => (t.ctrl, t.rspLen)) = some (.check, 0#9) := by decide
/-- HALT: the start marker is a violation (V5). -/
theorem test_halt_wrong_marker :
    (after { sys .check 1#4 [quiet] with rspB0 := 0x72#8 }).map State.status = some 0x000A#16 := by decide
/-- HALT rejects length 2 at the length byte (V2). -/
theorem test_halt_wrong_length :
    (after (sys .rxLen 1#4 [answer 2#8])).map (fun t => (t.rspLen, t.status)) = some (2#9, 0x000A#16) := by decide
/-- START succeeds for 0x72 (V5). -/
theorem test_start_marker :
    (after { sys .check 2#4 [quiet] with rspB0 := 0x72#8 }).map State.status = some 0x0002#16 := by decide
/-- CDONE: 0x43 means active (V5). -/
theorem test_cdone_active :
    (after { sys .check 3#4 [quiet] with rspB0 := 0x43#8 }).map State.status = some 0x0022#16 := by decide
/-- CDONE: 0x00 is a violation (V5). -/
theorem test_cdone_wrong_marker :
    (after { sys .check 3#4 [quiet] with rspB0 := 0x00#8 }).map State.status = some 0x000A#16 := by decide
/-- ERASE: 0x6F is a violation (V5). -/
theorem test_erase_wrong_marker :
    (after { sys .check 4#4 [quiet] with rspB0 := 0x6F#8 }).map State.status = some 0x000A#16 := by decide
/-- SERIAL passes its payload to the result stream (V5). -/
theorem test_serial_payload :
    (after { sys .rxPay 5#4 [answer 0xDE#8] with rspLen := 4#9 }).map (fun t => (t.rspB0, t.rxCnt, t.trace)) =
      some (0xDE#8, 1#9, [.rx 0xDE#8, .res 0xDE#8]) := by decide
/-- READ 600 after its first chunk: address 256, 344 left (V3). -/
theorem test_read_next_chunk :
    (after (reading .check [quiet])).map (fun t => (t.addr, t.remaining, t.chunkLen, t.ctrl)) =
      some (0x100#32, 344#16, 256#9, .txOp) := by decide
/-- READ 0 accepted in DONE ends at once (V6, V9). -/
theorem test_read_zero : (after (sys .done 1#4 [offer 6#4 0#16])).map State.status = some 0x0002#16 := by decide
/-- WRITE at the top of the address space carries (V7). -/
theorem test_write_carry :
    (after { sys .check 7#4 [quiet] with addr := 0xFFFFFF00#32, chunkLen := 256#9, rspB0 := 0x4F#8 }).map
        (fun t => (t.addr, t.ctrl, t.status)) = some (0#32, .fill, 0x0081#16) := by decide
/-- WRITE refuses a chunk past the address space (V7). -/
theorem test_write_overflow :
    (after { sys .fill 7#4 [finalToken] with addrCarry := true, bufIdx := 1#9 }).map State.status =
      some 0x0096#16 := by decide
/-- VERIFY of "123456789" (E5). -/
theorem test_verify_equal :
    (after { verifying .check [quiet] with devCrc := 0xCBF43926#32 }).map State.status = some 0x0042#16 := by decide
theorem test_verify_mismatch :
    (after { verifying .check [quiet] with devCrc := 0xCBF43927#32 }).map State.status = some 0x000E#16 := by decide
/-- The three reserved selects of V9. -/
theorem test_bad_op :
    (after (sys .idle 0#4 [offer 9#4 0#16])).map State.status = some 0x001A#16 ∧
      (after (sys .idle 0#4 [offer 15#4 0#16])).map State.status = some 0x001A#16 := by decide
/-- READ in RX_PAY with both errors: TRANSPORT, and nothing moves (V6). -/
theorem test_error_priority :
    (after { reading .rxPay [{ answer 1#8 with chErr := true, snkErr := true }] with rspLen := 256#9 }).map
        (fun t => (t.status, t.trace)) = some (0x0006#16, []) := by decide
/-- `crc_step` (V4). -/
theorem test_crc_step :
    crcStep 0xFFFFFFFF#32 0x00#8 = 0x2DFD1072#32 ∧ crcStep 0xFFFFFFFF#32 0xFF#8 = 0x00FFFFFF#32 ∧
      crcStep 0#32 0x01#8 = 0x77073096#32 ∧ crcStep 0#32 0x80#8 = 0xEDB88320#32 := by decide
/-- `next_chunk` (V3). -/
theorem test_next_chunk :
    nextChunk 88#16 = 88#9 ∧ nextChunk 256#16 = 256#9 ∧ nextChunk 257#16 = 256#9 ∧ nextChunk 65535#16 = 256#9 := by
  decide
/-- The stops of log entry 9, one state each. -/
theorem test_stops :
    (step (sys .txOp 9#4 [quiet]) matches .fault .reservedOpRunning) = true ∧
      (step (sys .settle 1#4 [quiet]) matches .fault .offPath) = true ∧
      (step { sys .idle 0#4 [quiet] with txIdx := 6#3 } matches .fault .unreachableRegister) = true ∧
      (step { sys .txData 7#4 [quiet] with bufIdx := 256#9 } matches .fault .bufferIndex) = true ∧
      (step { sys .check 6#4 [quiet] with chunkLen := 1#9 } matches .fault .remainingUnderflow) = true := by decide

/-! ## Witnesses: the hypotheses of each statement can be met together -/

/-- Each header frame, a status command's format and a well-formed frame. -/
theorem witness_fieldBytes :
    ((.write 0#32 2#16 [1#8, 2#8] : Instr), 0x77#8) ∈
        ([(.read 0#32 2#16, 0x72#8), (.verify 0#32 2#16, 0x74#8), (.write 0#32 2#16 [1#8, 2#8], 0x77#8)] :
          List (Instr × Byte)) ∧
      Command.format .serial = .f0 ∧ Instr.wellFormed (.write 0#32 2#16 [1#8, 2#8]) = true := by decide

theorem witness_decodeOfEncodedFrame : Instr.wellFormed (.write 0x100#32 2#16 [0xAA#8, 0x55#8]) = true := by decide

theorem witness_encodeOfDecodedFrame :
    decode [0x77#8, 0#8, 0#8, 0#8, 0#8, 0#8, 1#8, 0xAB#8, 0x21#8] =
      .ok (.write 0#32 1#16 [0xAB#8], [0x21#8]) := by decide

/-- Every clause: busy with a command, an offered command, and nothing in hand. -/
theorem witness_stepRunsInstructionInHand :
    (reading .txOp [take]).busy = true ∧ (reading .txOp [take]).command = some .read ∧
      (reading .txOp [take]).fetch = some (.read 0#32 256#16) ∧
      (sys .done 0#4 [offer 8#4 9#16]).busy = false ∧ (sys .done 0#4 [offer 8#4 9#16]).now.rst = false ∧
      (sys .done 0#4 [offer 8#4 9#16]).now.cmdValid = true ∧
      Command.ofSelect (sys .done 0#4 [offer 8#4 9#16]).now.cmdOp = some .verify ∧
      (sys .idle 0#4 [quiet]).fetch = none ∧ (sys .idle 0#4 [offer 9#4 0#16]).fetch = none := by decide

theorem witness_placedWordRunsNext :
    decodeTableWord 56 0x09000000000074 = some (.verify 0#32 9#16) ∧
      Instr.offerable (.verify 0#32 9#16) = true ∧
      decodeTableWord 8 0x77 = some (.write 0#32 0#16 []) ∧ Instr.offerable (.write 0#32 0#16 []) = true := by decide

theorem witness_resetStateValues : (offer 1#4 0#16).rst = false := by decide

/-- A reset cycle in the middle of a frame's data; the hypothesis of both reset statements. -/
theorem witness_reset : (writing .txData [{ rst := true, txReady := true }]).now.rst = true := by decide

theorem witness_commandInputsSampledOnlyAtFire :
    (reading .txOp [offer 1#4 5#16]).inputs = offer 1#4 5#16 :: [] ∧
      (reading .txOp [offer 1#4 5#16]).cmdFire = false ∧ (sys .done 1#4 [offer 6#4 600#16]).cmdFire = true ∧
      (sys .idle 0#4 [offer 15#4 1#16]).cmdFire = true := by decide

theorem witness_commandInputs_step : ∃ t, step (sys .done 1#4 [offer 6#4 600#16]) = .next t := ⟨_, rfl⟩

theorem witness_busyIgnoresOfferedCommands :
    (reading .rxLen [offer 1#4 0#16]).inputs = offer 1#4 0#16 :: [] ∧
      (reading .rxLen [offer 1#4 0#16]).busy = true := by decide

theorem witness_waitingHoldsEveryRegister :
    (sys .done 3#4 [quiet]).now.rst = false ∧ (sys .done 3#4 [quiet]).legal = true ∧
      (sys .done 3#4 [quiet]).busy = false ∧ (sys .done 3#4 [quiet]).now.cmdValid = false := by decide

/-- Two waiting states that differ in every kind of register. -/
theorem witness_acceptanceForgetsTheLastOperation :
    let s₁ := sys .idle 0#4 [offer 7#4 0#16]
    let s₂ : State :=
      { sys .done 8#4 [offer 7#4 0#16] with
        crc := 1#32, devCrc := 2#32, errCode := .mismatch, rspLen := 4#9, remaining := 9#16 }
    s₁.legal = true ∧ s₂.legal = true ∧ s₁.busy = false ∧ s₂.busy = false ∧ s₁.buf = s₂.buf ∧
      s₁.settleCycles = s₂.settleCycles ∧ s₁.inputs = s₂.inputs ∧ s₁.cycle = s₂.cycle ∧ s₁.trace = s₂.trace ∧
      s₁.cmdFire = true ∧ s₁ ≠ s₂ := by decide

/-- The least and the greatest reserved select. -/
theorem witness_reservedSelectEndsWithBadOp :
    (sys .idle 0#4 [offer 9#4 3#16]).cmdFire = true ∧ (sys .idle 0#4 [offer 9#4 3#16]).legal = true ∧
      9 ≤ (sys .idle 0#4 [offer 9#4 3#16]).now.cmdOp.toNat ∧ (sys .done 0#4 [offer 15#4 3#16]).cmdFire = true ∧
      (sys .done 0#4 [offer 15#4 3#16]).legal = true ∧
      9 ≤ (sys .done 0#4 [offer 15#4 3#16]).now.cmdOp.toNat := by decide

/-- Each of the four registers just outside its range. -/
theorem witness_illegalRegistersAreStuck :
    (sys .idle 0#4 [quiet]).now.rst = false ∧ 6 ≤ ({ sys .idle 0#4 [quiet] with txIdx := 6#3 } : State).txIdx.toNat ∧
      257 ≤ ({ sys .idle 0#4 [quiet] with chunkLen := 257#9 } : State).chunkLen.toNat ∧
      257 ≤ ({ sys .idle 0#4 [quiet] with bufIdx := 257#9 } : State).bufIdx.toNat ∧
      257 ≤ ({ sys .idle 0#4 [quiet] with rspLen := 257#9 } : State).rspLen.toNat := by decide

/-- An accepted command, for the three acceptance statements; READ's count 0, 1 and the greatest. -/
theorem witness_accepted :
    (Instr.halt, 1#4) ∈
        ([(.fwver, 0#4), (.halt, 1#4), (.start, 2#4), (.cdone, 3#4), (.erase, 4#4), (.serial, 5#4)] :
          List (Instr × BitVec 4)) ∧
      (sys .idle 0#4 [offer 1#4 0#16]).cmdFire = true ∧ (sys .idle 0#4 [offer 1#4 0#16]).legal = true ∧
      (0#16 : Len) = 0#16 ∧ (1#16 : Len) ≠ 0#16 ∧ (65535#16 : Len) ≠ 0#16 := by decide

theorem witness_sampledErrorRaisesAndMovesNothing :
    let s := reading .rxPay [{ answer 1#8 with snkErr := true }]
    s.now.rst = false ∧ s.stop .read = none ∧ s.sampledErr .read = some .localIo ∧ s.now.rxValid = true := by decide

theorem witness_sampledErrorsByState : (sys .settle 7#4 [{ chErr := true }]).ctrl ∈ [Ctrl.idle, .done, .settle, .check] := by
  decide

/-- Each of the five kinds of wait. -/
theorem witness_waitsHoldEveryRegister :
    (let s := sys .txOp 1#4 [quiet];
      s.now.rst = false ∧ s.stop .halt = none ∧ s.sampledErr .halt = none ∧ s.now.txReady = false) ∧
    (let s := sys .rxLen 1#4 [quiet];
      s.now.rst = false ∧ s.stop .halt = none ∧ s.sampledErr .halt = none ∧ s.now.rxValid = false) ∧
    (let s := reading .rxPay [{ rxValid := true }];
      s.now.rst = false ∧ s.stop .read = none ∧ s.sampledErr .read = none ∧ s.now.snkReady = false) ∧
    (let s := sys .rxPay 0#4 [{ rxValid := true }];
      s.now.rst = false ∧ s.stop .fwver = none ∧ s.sampledErr .fwver = none ∧ s.now.resReady = false) ∧
    (let s := sys .fill 7#4 [quiet];
      s.now.rst = false ∧ s.stop .write = none ∧ s.sampledErr .write = none ∧ s.now.srcValid = false) := by decide

/-- Every one of the six errors is raised by some step that changes the code, PROTOCOL at each of its places and
ADDR_OVERFLOW by each token that makes a chunk ready; and BAD_OP after BAD_OP. -/
theorem witness_errorCodesComeFromTheirRules :
    (after (sys .txOp 1#4 [{ chErr := true }])).map State.errCode = some .transport ∧
      (after { sys .check 1#4 [quiet] with rspB0 := 0x78#8 }).map State.errCode = some .protocol ∧
      (after { sys .check 3#4 [quiet] with rspB0 := 0x00#8 }).map State.errCode = some .protocol ∧
      (after (sys .rxLen 8#4 [answer 3#8])).map State.errCode = some .protocol ∧
      (after (reading .rxLen [answer 255#8])).map State.errCode = some .protocol ∧
      (after (verifying .check [quiet])).map State.errCode = some .mismatch ∧
      (after (sys .crcRun 8#4 [{ srcErr := true }])).map State.errCode = some .localIo ∧
      (after (sys .fill 7#4 [{ srcErr := true }])).map State.errCode = some .localIo ∧
      (after { sys .fill 7#4 [finalToken] with addrCarry := true, bufIdx := 1#9 }).map State.errCode =
        some .addrOverflow ∧
      (after { sys .fill 7#4 [data 0#8] with addrCarry := true, bufIdx := 255#9 }).map State.errCode =
        some .addrOverflow ∧
      (after (sys .idle 0#4 [offer 12#4 0#16])).map State.errCode = some .badOp ∧
      (after { sys .done 9#4 [offer 9#4 0#16] with errCode := .badOp }).map State.errCode = some .badOp ∧
      (sys .done 9#4 [offer 9#4 0#16]).cmdFire = true ∧ (sys .txOp 1#4 [quiet]).errCode = .none := by decide

theorem witness_onlyTheListedTransitions :
    (sys .txOp 1#4 [take]).now.rst = false ∧ (after (sys .txOp 1#4 [take])).isSome = true := by decide

theorem witness_opcodeByteSent :
    let s := sys .txOp 8#4 [take]
    s.now.rst = false ∧ s.legal = true ∧ s.ctrl = .txOp ∧ s.now.chErr = false ∧ s.now.txReady = true := by decide

/-- The first and the last header byte. -/
theorem witness_headerByteSent :
    let s := verifying .txHdr [take]
    Command.verify ∈ [Command.read, .write, .verify] ∧ s.now.rst = false ∧ s.legal = true ∧ s.ctrl = .txHdr ∧
      s.now.chErr = false ∧ s.now.txReady = true ∧ s.txIdx.toNat = 0 ∧
      ({ s with txIdx := 5#3 } : State).legal = true := by decide

/-- The first byte of a chunk and the last one of a full chunk. -/
theorem witness_dataByteSent :
    let s := writing .txData [take]
    s.now.rst = false ∧ s.legal = true ∧ s.ctrl = .txData ∧ s.bufIdx.toNat ≤ 255 ∧ s.now.chErr = false ∧
      s.now.txReady = true ∧ ({ s with bufIdx := 255#9, chunkLen := 256#9 } : State).legal = true ∧
      (255#9 : Count).toNat ≤ 255 := by decide

/-- The nine bytes of E1's write frame, and the one byte of a status command. -/
theorem witness_frameSentIsItsEncoding :
    (let script := List.replicate 9 take;
      let s := writing .txOp script;
      s.ctrl = .txOp ∧ s.command = some .write ∧ s.legal = true ∧ 1 ≤ s.chunkLen.toNat ∧ s.inputs = script ++ [] ∧
        script.length = (encode (s.frame .write)).length ∧
        ∀ n ∈ script, n.rst = false ∧ n.chErr = false ∧ n.txReady = true) ∧
    (let s := sys .txOp 3#4 [take];
      s.command = some .cdone ∧ s.legal = true ∧ [take].length = (encode (s.frame .cdone)).length) := by decide

theorem witness_frameFieldsStandStill :
    (writing .txData [take]).ctrl ∈ [Ctrl.txOp, .txHdr, .txData] ∧ (writing .txData [take]).now.rst = false := by decide

theorem witness_frameFields_exec : ∃ t, exec (.write 0#32 0#16 []) (writing .txData [take]) = .next t := ⟨_, rfl⟩

/-- A full chunk and none at all. -/
theorem witness_acceptedLengths :
    (reading .rxLen [answer 0#8]).legal = true ∧ (sys .rxLen 0#4 [answer 255#8]).legal = true := by decide

theorem witness_lengthByteTaken :
    let s := reading .rxLen [answer 0#8]
    s.now.rst = false ∧ s.legal = true ∧ s.ctrl = .rxLen ∧ s.now.chErr = false ∧ s.now.rxValid = true := by decide

/-- A byte for the sink, one for the result stream and one kept inside, the first and the last. -/
theorem witness_payloadByteTaken :
    (let s : State := { reading .rxPay [answer 0x10#8] with rspLen := 256#9, rxCnt := 255#9 };
      s.now.rst = false ∧ s.legal = true ∧ s.ctrl = .rxPay ∧ s.now.chErr = false ∧ s.now.rxValid = true ∧
        s.now.snkErr = false ∧ s.now.snkReady = true) ∧
    (let s : State := { sys .rxPay 0#4 [answer 0x76#8] with rspLen := 3#9 };
      s.legal = true ∧ s.now.rxValid = true ∧ s.now.resReady = true) ∧
    (let s : State := { sys .rxPay 8#4 [{ rxValid := true, rxData := 0x12#8 }] with rspLen := 4#9 };
      s.legal = true ∧ s.now.rxValid = true ∧ s.now.snkReady = false) := by decide

theorem witness_digestAssembledBigEndian :
    let script := [answer 0x12#8, answer 0x34#8, answer 0x56#8, answer 0x78#8]
    let s : State := { verifying .rxPay script with rspLen := 4#9 }
    s.ctrl = .rxPay ∧ s.command = some .verify ∧ s.legal = true ∧ s.rxCnt = 0#9 ∧ s.rspLen = 4#9 ∧
      s.inputs = script ++ [] ∧ ∀ n ∈ script, n.rst = false ∧ n.chErr = false ∧ n.rxValid = true := by decide

/-- FWVER answered with no byte, and SERIAL with two. -/
theorem witness_opaquePayloadReachesResultStream :
    (let s := sys .idle 0#4 [offer 0#4 0#16, take, answer 0#8, quiet];
      Command.fwver ∈ [Command.fwver, .serial] ∧ s.busy = false ∧ s.legal = true ∧
        s.inputs = offer 0#4 0#16 :: take :: answer 0#8 :: ([] ++ quiet :: []) ∧
        (∀ n ∈ s.inputs, n.rst = false ∧ n.chErr = false) ∧ (offer 0#4 0#16).cmdValid = true ∧
        (offer 0#4 0#16).cmdOp = Command.fwver.select ∧ take.txReady = true ∧ (answer 0#8).rxValid = true ∧
        (answer 0#8).rxData.toNat = 0) ∧
    (let s := sys .done 0#4 [offer 5#4 0#16, take, answer 2#8, answer 0xDE#8, answer 0xAD#8, quiet];
      s.inputs = offer 5#4 0#16 :: take :: answer 2#8 :: ([answer 0xDE#8, answer 0xAD#8] ++ quiet :: []) ∧
        (∀ n ∈ s.inputs, n.rst = false ∧ n.chErr = false) ∧ (offer 5#4 0#16).cmdOp = Command.serial.select ∧
        (answer 2#8).rxData.toNat = [answer 0xDE#8, answer 0xAD#8].length ∧
        ∀ n ∈ [answer 0xDE#8, answer 0xAD#8], n.rxValid = true ∧ n.resReady = true) := by decide

/-- HALT answered with its marker. -/
theorem witness_markerCommandRoundTrip :
    let s := sys .idle 0#4 [offer 1#4 0#16, take, answer 1#8, answer 0x52#8, quiet]
    Command.halt ∈ [Command.halt, .start, .cdone, .erase] ∧ s.busy = false ∧ s.legal = true ∧
      (∀ n ∈ s.inputs, n.rst = false ∧ n.chErr = false) ∧ (offer 1#4 0#16).cmdValid = true ∧
      (offer 1#4 0#16).cmdOp = Command.halt.select ∧ take.txReady = true ∧ (answer 1#8).rxValid = true ∧
      (answer 1#8).rxData = 1#8 ∧ (answer 0x52#8).rxValid = true ∧
      [(0x52#8 : Byte).toNat] = [0x52] ∧ (0x78#8 : Byte).toNat ∉ [0x52] := by decide

/-- One cycle of the delay and all of it. -/
theorem witness_settleLastsItsCount :
    let script := [quiet, quiet, quiet]
    let s : State := { sys .settle 7#4 script with settleCnt := 3 }
    s.ctrl = .settle ∧ s.command = some .write ∧ s.legal = true ∧ s.inputs = script ++ [] ∧
      (∀ n ∈ script, n.rst = false) ∧ script.length ≤ s.settleCnt ∧ 1 ≤ script.length ∧
      s.inputs = [quiet] ++ [quiet, quiet] ∧ [quiet].length ≤ s.settleCnt := by decide

/-- A cycle of CHECK, for the checks of every command; READ with its chunk the last and not the last. -/
theorem witness_checks :
    let s := reading .check [quiet]
    s.now.rst = false ∧ s.legal = true ∧ s.ctrl = .check ∧ s.chunkLen.toNat ≤ s.remaining.toNat ∧
      s.addr.toNat + s.chunkLen.toNat < 2 ^ 32 ∧
      ({ s with remaining := 256#16 } : State).chunkLen.toNat ≤ ({ s with remaining := 256#16 } : State).remaining.toNat ∧
      Instr.serial ∈ ([.fwver, .serial] : List Instr) ∧
      (Instr.start, 0x72) ∈ ([(.halt, 0x52), (.start, 0x72), (.erase, 0x4F)] : List (Instr × Nat)) ∧
      (0x45#8 : Byte) ≠ 0x4F#8 := by decide

/-- The states of the invariant's witnesses meet it: a running READ, WRITE and VERIFY. -/
theorem witness_reading_inv (k : Ctrl) (hk : k = .txOp ∨ k = .check) : (reading k [quiet]).Inv := by
  rcases hk with rfl | rfl <;>
    constructor <;> decide

theorem witness_writing_inv : (writing .txData [take]).Inv := by
  constructor <;> decide

theorem witness_verifying_inv : (verifying .txHdr [take]).Inv := by
  constructor <;> decide

theorem witness_readAddressPlusRemaining :
    (reading .check [quiet]).busy = true ∧ (reading .check [quiet]).command = some .read ∧
      (reading .check [quiet]).now.rst = false := by decide

theorem witness_readAddressPlusRemaining_exec :
    ∃ t, exec (.read 0#32 0#16) (reading .check [quiet]) = .next t := ⟨_, rfl⟩

/-- The first byte of a chunk and its 256th, with and without a carry. -/
theorem witness_fillStoresDataByte :
    let s := sys .fill 7#4 [data 0xAB#8]
    let s' : State := { s with bufIdx := 255#9, addrCarry := true }
    s.now.rst = false ∧ s.legal = true ∧ s.ctrl = .fill ∧ s.bufIdx.toNat ≤ 255 ∧ Memory.wf s.buf = true ∧
      s.now.srcErr = false ∧ s.now.srcValid = true ∧ s.now.srcEoi = false ∧ s'.legal = true ∧
      s'.bufIdx.toNat ≤ 255 := by decide

/-- An empty chunk and a chunk of one byte. -/
theorem witness_fillEndsInput :
    let s := sys .fill 7#4 [finalToken]
    s.now.rst = false ∧ s.legal = true ∧ s.ctrl = .fill ∧ s.now.srcErr = false ∧ s.now.srcValid = true ∧
      s.now.srcEoi = true ∧ s.bufIdx = 0#9 ∧ ({ s with bufIdx := 1#9 } : State).legal = true := by decide

theorem witness_crcRunConsumesTheImage :
    let script := [data 0x61#8, data 0x62#8, data 0x63#8]
    let s := sys .crcRun 8#4 (script ++ [finalToken])
    s.ctrl = .crcRun ∧ s.command = some .verify ∧ s.legal = true ∧ s.inputs = script ++ finalToken :: [] ∧
      (∀ n ∈ script, n.rst = false ∧ n.srcErr = false ∧ n.srcValid = true ∧ n.srcEoi = false) ∧
      finalToken.rst = false ∧ finalToken.srcErr = false ∧ finalToken.srcValid = true ∧
      finalToken.srcEoi = true := by decide

/-- READ of one byte (V6). -/
theorem witness_readOfOneChunkCompletes :
    let n₀ := offer 6#4 1#16
    let tx := List.replicate 7 take
    let pay := [answer 0x10#8]
    let s := sys .idle 0#4 (n₀ :: (tx ++ answer 1#8 :: (pay ++ quiet :: [])))
    s.busy = false ∧ s.legal = true ∧
      (∀ n ∈ n₀ :: answer 1#8 :: quiet :: (tx ++ pay), n.rst = false ∧ n.chErr = false ∧ n.snkErr = false) ∧
      n₀.cmdValid = true ∧ n₀.cmdOp = 6#4 ∧ 1 ≤ n₀.cmdCount.toNat ∧ n₀.cmdCount.toNat ≤ 256 ∧ tx.length = 7 ∧
      (∀ n ∈ tx, n.txReady = true) ∧ (answer 1#8).rxValid = true ∧
      (answer 1#8).rxData.toNat = n₀.cmdCount.toNat % 256 ∧ pay.length = n₀.cmdCount.toNat ∧
      ∀ n ∈ pay, n.rxValid = true ∧ n.snkReady = true := by decide

/-- WRITE of the one byte 0xAB (V7). -/
theorem witness_writeOfOneChunkCompletes :
    let n₀ := offer 7#4 0#16
    let img := [data 0xAB#8]
    let tx := List.replicate 8 take
    let delay := List.replicate 3 quiet
    let s := sys .idle 0#4
      (n₀ :: (img ++ finalToken :: (tx ++ (delay ++ answer 1#8 :: answer 0x4F#8 :: quiet :: []))))
    s.busy = false ∧ s.legal = true ∧ Memory.wf s.buf = true ∧
      (∀ n ∈ n₀ :: finalToken :: answer 1#8 :: answer 0x4F#8 :: quiet :: (img ++ tx),
        n.rst = false ∧ n.chErr = false ∧ n.srcErr = false) ∧
      n₀.cmdValid = true ∧ n₀.cmdOp = 7#4 ∧ 1 ≤ img.length ∧ img.length ≤ 255 ∧
      (∀ n ∈ img, n.srcValid = true ∧ n.srcEoi = false) ∧ finalToken.srcValid = true ∧ finalToken.srcEoi = true ∧
      tx.length = img.length + 7 ∧ (∀ n ∈ tx, n.txReady = true) ∧ 1 ≤ delay.length ∧
      delay.length = s.settleCycles ∧ (∀ n ∈ delay, n.rst = false) ∧ (answer 1#8).rxValid = true ∧
      (answer 1#8).rxData = 1#8 ∧ (answer 0x4F#8).rxValid = true := by decide

/-- VERIFY of an empty image answered with zeros (V8). -/
theorem witness_verifyOfAnImageCompletes :
    let n₀ := offer 8#4 0#16
    let tx := List.replicate 7 take
    let zero := answer 0#8
    let s := sys .idle 0#4
      (n₀ :: ([] ++ finalToken :: (tx ++ answer 4#8 :: zero :: zero :: zero :: zero :: quiet :: [])))
    s.busy = false ∧ s.legal = true ∧
      (∀ n ∈ n₀ :: finalToken :: answer 4#8 :: zero :: zero :: zero :: zero :: quiet :: ([] ++ tx),
        n.rst = false ∧ n.chErr = false ∧ n.srcErr = false) ∧
      n₀.cmdValid = true ∧ n₀.cmdOp = 8#4 ∧ finalToken.srcValid = true ∧ finalToken.srcEoi = true ∧
      tx.length = 7 ∧ (∀ n ∈ tx, n.txReady = true) ∧ (answer 4#8).rxValid = true ∧ (answer 4#8).rxData = 4#8 ∧
      ∀ n ∈ [zero, zero, zero, zero], n.rxValid = true := by decide

/-- A next state for each frame statement: each kind of instruction in a busy cycle outside reset. -/
theorem witness_statusCommandFrame :
    Instr.halt ∈ ([.fwver, .halt, .start, .cdone, .erase, .serial] : List Instr) ∧
      ∃ t, exec .halt (sys .txOp 1#4 [take]) = .next t := ⟨by decide, _, rfl⟩

theorem witness_readFrame : ∃ t, exec (.read 0#32 256#16) (reading .txHdr [take]) = .next t := ⟨_, rfl⟩

/-- A WRITE cycle that stores a byte, and the clause for the bytes it leaves. -/
theorem witness_writeFrame :
    (∃ t, exec (.write 0#32 0#16 []) (sys .fill 7#4 [data 0xAB#8]) = .next t) ∧
      (1 : Nat) ≠ (sys .fill 7#4 [data 0xAB#8]).fillIndex ∧ (sys .fill 7#4 [finalToken]).now.srcEoi = true :=
  ⟨⟨_, rfl⟩, by decide, by decide⟩

theorem witness_verifyFrame : ∃ t, exec (.verify 0#32 9#16) (verifying .check [quiet]) = .next t := ⟨_, rfl⟩

theorem witness_frames_busy :
    (sys .txOp 1#4 [take]).busy = true ∧ (sys .txOp 1#4 [take]).now.rst = false ∧
      (reading .txHdr [take]).busy = true ∧ (sys .fill 7#4 [data 0xAB#8]).busy = true ∧
      (verifying .check [quiet]).busy = true := by decide

/-- The invariant holds and the step goes on. -/
theorem witness_stepKeepsInvariant :
    (writing .txData [take]).Inv ∧ ∃ t, step (writing .txData [take]) = .next t := ⟨witness_writing_inv, _, rfl⟩

theorem witness_framesSentAreSendable :
    (writing .txData [take]).Inv ∧ (writing .txData [take]).command = some .write ∧
      (writing .txData [take]).ctrl ∈ [Ctrl.txOp, .txHdr, .txData] := ⟨witness_writing_inv, by decide, by decide⟩

end Sys2Proof.Tests
end

section
/-! PROOFS of the statements of 10_state.md: the legal ranges and the STATUS word (R54, R49), the command inputs (R28),
and the invariant (R54, R194, R195, R276). -/

namespace Sys2Proof.Machine

/-! ## Legal ranges -/

theorem State.legal_iff {s : State} :
    s.legal = true ↔ s.txIdx.toNat ≤ 5 ∧ s.chunkLen.toNat ≤ 256 ∧ s.bufIdx.toNat ≤ 256 ∧
      s.rspLen.toNat ≤ 256 ∧ s.rxCnt.toNat ≤ 255 := by
  simp [State.legal, and_assoc]

/-- An illegal register stops every cycle outside reset, whatever is in hand. -/
theorem step_of_illegal {s : State} (hr : s.now.rst = false) (hl : s.legal = false) :
    step s = .fault .unreachableRegister := by
  unfold step
  split
  · rw [exec_eq_clocked]
    simp [State.clocked, State.stop, hr, hl]
  · simp [State.idleCycle, hr, hl]

/-- Settles O16: a register past its bound makes the state illegal. -/
theorem illegalRegistersAreStuck : Obligations.IllegalRegistersAreStuck := by
  intro s hr hout
  refine step_of_illegal hr (Bool.eq_false_iff.mpr fun hl => ?_)
  obtain ⟨htx, hchunk, hidx, hrsp, -⟩ := State.legal_iff.mp hl
  omega

/-! ## The STATUS word -/

theorem State.isDone_iff {s : State} : s.isDone = true ↔ s.ctrl = .done := by
  simp [State.isDone]

/-- The STATUS word bit by bit (R49). -/
theorem State.status_getLsbD (s : State) (i : Nat) :
    s.status.getLsbD i =
      match i with
      | 0 => s.busy
      | 1 => s.isDone
      | 2 | 3 | 4 => s.errCode.code.getLsbD (i - 2)
      | 5 => s.cdoneActive
      | 6 => s.verifyOk
      | 7 => s.addrCarry
      | _ => false := by
  have hfields : s.status =
      (0#8 ++ BitVec.ofBool s.addrCarry ++ BitVec.ofBool s.verifyOk ++ BitVec.ofBool s.cdoneActive
        ++ s.errCode.code ++ BitVec.ofBool s.isDone ++ BitVec.ofBool s.busy :
          BitVec (8 + 1 + 1 + 1 + 3 + 1 + 1)) := rfl
  simp only [hfields, BitVec.getLsbD_append]
  match i with
  | 0 | 1 | 2 | 3 | 4 | 5 | 6 | 7 => simp
  | n + 8 => simp

theorem State.status_err (s : State) : s.status.extractLsb' 2 3 = s.errCode.code := by
  ext i hi
  rw [BitVec.getElem_extractLsb', State.status_getLsbD]
  interval_cases i <;> rfl

theorem State.status_reserved (s : State) : s.status.extractLsb' 8 8 = 0#8 := by
  ext i hi
  rw [BitVec.getElem_extractLsb', Nat.add_comm, State.status_getLsbD]
  simp

/-- Settles O52, from the bits of the STATUS word. -/
theorem statusWordFields : Obligations.StatusWordFields := fun s =>
  ⟨s.status_getLsbD 0, s.status_getLsbD 1, s.status_err, s.status_getLsbD 5, s.status_getLsbD 6,
    s.status_getLsbD 7, s.status_reserved, State.busy_eq_true, State.isDone_iff, rfl⟩

/-! ## The command inputs outside `cmd.fire`

Every rule of a cycle commutes with a change of the command inputs, because none of them reads these. -/

/-- The state with another script of inputs. -/
def State.withInputs (s : State) (l : List Inputs) : State := { s with inputs := l }

/-- `l'` is the script `l` with other values on the command inputs of its first cycle (R21). -/
def Reoffered (l l' : List Inputs) : Prop :=
  ∃ n rest v op count,
    l = n :: rest ∧ l' = { n with cmdValid := v, cmdOp := op, cmdCount := count } :: rest

theorem Reoffered.refl_left {l l' : List Inputs} (h : Reoffered l l') : Reoffered l l := by
  obtain ⟨n, rest, -, -, -, rfl, -⟩ := h
  exact ⟨n, rest, n.cmdValid, n.cmdOp, n.cmdCount, rfl, rfl⟩

theorem Reoffered.tail_eq {l l' : List Inputs} (h : Reoffered l l') : l'.tail = l.tail := by
  obtain ⟨n, rest, v, op, count, rfl, rfl⟩ := h
  rfl

section withInputs

variable (s : State) (c : Command) (l : List Inputs) {l₀ l' : List Inputs}

theorem State.ite_withInputs (p : Prop) [Decidable p] (s t : State) :
    (if p then s else t).withInputs l = if p then s.withInputs l else t.withInputs l :=
  apply_ite (State.withInputs · l) p s t

theorem State.afterOpcode_withInputs :
    (s.withInputs l).afterOpcode c = (s.afterOpcode c).withInputs l := by
  simp only [State.afterOpcode, State.ite_withInputs]
  rfl

theorem State.afterHeaderByte_withInputs :
    (s.withInputs l).afterHeaderByte c = (s.afterHeaderByte c).withInputs l := by
  simp only [State.afterHeaderByte, State.ite_withInputs]
  rfl

theorem State.afterDataByte_withInputs :
    (s.withInputs l).afterDataByte = s.afterDataByte.withInputs l := by
  simp only [State.afterDataByte, State.ite_withInputs]
  rfl

theorem State.settleCycle_withInputs :
    (s.withInputs l).settleCycle = s.settleCycle.withInputs l := by
  simp only [State.settleCycle, State.ite_withInputs]
  rfl

theorem State.checkOf_withInputs : checkOf c (s.withInputs l) = (checkOf c s).withInputs l := by
  cases c <;>
    simp only [checkOf, State.checkMarker, State.checkCdone, State.checkRead, State.checkWrite,
      State.checkVerify, State.ite_withInputs] <;> rfl

theorem State.takeLength_withInputs (h : Reoffered l₀ l') :
    (s.withInputs l').takeLength c = ((s.withInputs l₀).takeLength c).withInputs l' := by
  obtain ⟨n, rest, v, op, count, rfl, rfl⟩ := h
  simp only [State.takeLength, State.ite_withInputs]
  rfl

theorem State.takePayload_withInputs (h : Reoffered l₀ l') :
    (s.withInputs l').takePayload c = ((s.withInputs l₀).takePayload c).withInputs l' := by
  obtain ⟨n, rest, v, op, count, rfl, rfl⟩ := h
  simp only [State.takePayload, State.ite_withInputs]
  rfl

theorem State.takeFill_withInputs (h : Reoffered l₀ l') :
    (s.withInputs l').takeFill = (s.withInputs l₀).takeFill.withInputs l' := by
  obtain ⟨n, rest, v, op, count, rfl, rfl⟩ := h
  simp only [State.takeFill, State.chunkReady, State.ite_withInputs]
  rfl

theorem State.takeCrc_withInputs (h : Reoffered l₀ l') :
    (s.withInputs l').takeCrc = (s.withInputs l₀).takeCrc.withInputs l' := by
  obtain ⟨n, rest, v, op, count, rfl, rfl⟩ := h
  simp only [State.takeCrc, State.ite_withInputs]
  rfl

theorem State.onTransfer_withInputs (h : Reoffered l₀ l') (fire : Bool) {act act' : State}
    (hact : act' = act.withInputs l') :
    (s.withInputs l').onTransfer c fire act' = ((s.withInputs l₀).onTransfer c fire act).withInputs l' := by
  have herr : (s.withInputs l').sampledErr c = (s.withInputs l₀).sampledErr c := by
    obtain ⟨n, rest, v, op, count, rfl, rfl⟩ := h
    rfl
  rw [hact, State.onTransfer, State.onTransfer, herr]
  split
  · rfl
  · rw [State.ite_withInputs]
    rfl

/-- Where no command is accepted, the transfers do not depend on the command inputs. -/
theorem State.transfers_withInputs (h : Reoffered l₀ l') (hf : (s.withInputs l₀).cmdFire = false)
    (hf' : (s.withInputs l').cmdFire = false) :
    (s.withInputs l').transfers c = (s.withInputs l₀).transfers c := by
  obtain ⟨n, rest, v, op, count, rfl, rfl⟩ := h
  simp only [State.transfers, hf, hf']
  rfl

/-- Where no command is accepted, the register writes of a cycle do not depend on the command inputs. -/
theorem State.commandCycle_withInputs (h : Reoffered l₀ l') (hf : (s.withInputs l₀).cmdFire = false)
    (hf' : (s.withInputs l').cmdFire = false) (count : Len) (begin : State → State) :
    (s.withInputs l').commandCycle c count begin (checkOf c) =
      ((s.withInputs l₀).commandCycle c count begin (checkOf c)).withInputs l' := by
  have hctrl (l : List Inputs) : (s.withInputs l).ctrl = s.ctrl := rfl
  have htx : (s.withInputs l').txFire c = (s.withInputs l₀).txFire c := by
    obtain ⟨n, rest, v, op, count, rfl, rfl⟩ := h
    rfl
  have hrx : (s.withInputs l').rxFire c = (s.withInputs l₀).rxFire c := by
    obtain ⟨n, rest, v, op, count, rfl, rfl⟩ := h
    rfl
  have hsrc : (s.withInputs l').srcFire c = (s.withInputs l₀).srcFire c := by
    obtain ⟨n, rest, v, op, count, rfl, rfl⟩ := h
    rfl
  simp only [State.commandCycle, hctrl, htx, hrx, hsrc]
  cases s.ctrl with
  | idle | done =>
    simp only [State.acceptCycle, hf, hf']
    rfl
  | txOp => exact s.onTransfer_withInputs c h _ ((s.withInputs l₀).afterOpcode_withInputs c l')
  | txHdr => exact s.onTransfer_withInputs c h _ ((s.withInputs l₀).afterHeaderByte_withInputs c l')
  | txData => exact s.onTransfer_withInputs c h _ ((s.withInputs l₀).afterDataByte_withInputs l')
  | settle => exact (s.withInputs l₀).settleCycle_withInputs l'
  | rxLen => exact s.onTransfer_withInputs c h _ (s.takeLength_withInputs c h)
  | rxPay => exact s.onTransfer_withInputs c h _ (s.takePayload_withInputs c h)
  | check => exact (s.withInputs l₀).checkOf_withInputs c l'
  | fill => exact s.onTransfer_withInputs c h _ (s.takeFill_withInputs h)
  | crcRun => exact s.onTransfer_withInputs c h _ (s.takeCrc_withInputs h)

/-- Where no command is accepted, an instruction's cycle does not depend on the command inputs. -/
theorem exec_withInputs (h : Reoffered l₀ l') (hf : (s.withInputs l₀).cmdFire = false)
    (hf' : (s.withInputs l').cmdFire = false) (i : Instr) :
    exec i (s.withInputs l') = exec i (s.withInputs l₀) := by
  have hkept := congrArg State.inputs
    (s.commandCycle_withInputs i.command h.refl_left hf hf (offeredCount i) (beginOf i))
  have htick (t : State) (m : List Transfer) (ht : t.inputs = l₀) : (t.withInputs l').tick m = t.tick m := by
    simp [State.tick, State.withInputs, ht, h.tail_eq]
  rw [exec_eq_clocked, exec_eq_clocked, State.clocked, State.clocked, s.transfers_withInputs _ h hf hf',
    s.commandCycle_withInputs _ h hf hf', htick _ _ hkept]
  obtain ⟨n, rest, v, op, count, rfl, rfl⟩ := h
  rfl

/-- Where no command is accepted, a step does not depend on the command inputs (R28, R159). -/
theorem step_withInputs (h : Reoffered l₀ l') (hf : (s.withInputs l₀).cmdFire = false)
    (hf' : (s.withInputs l').cmdFire = false) : step (s.withInputs l') = step (s.withInputs l₀) := by
  have hfetch : (s.withInputs l').fetch = (s.withInputs l₀).fetch := by
    simp only [State.fetch, hf, hf']
    rfl
  rw [step, step, hfetch]
  cases (s.withInputs l₀).fetch with
  | some i => exact exec_withInputs s h hf hf' i
  | none =>
    obtain ⟨n, rest, v, op, count, rfl, rfl⟩ := h
    simp only [State.idleCycle, hf, hf']
    rfl

end withInputs

/-! ## What acceptance latches -/

/-- A command's first move writes neither `op` nor `remaining`. -/
theorem beginOf_keeps_latched (c : Command) (count : Len) (s : State) :
    (beginOf (offered c count) s).op = s.op ∧ (beginOf (offered c count) s).remaining = s.remaining := by
  cases c with
  | read =>
    simp only [offered, beginOf, State.beginRead]
    split <;> exact ⟨rfl, rfl⟩
  | fwver | halt | start | cdone | erase | serial | write | verify => exact ⟨rfl, rfl⟩

/-- The count reaches `remaining` for READ and VERIFY alone (R155). -/
theorem acceptEffects_remaining (s : State) (c : Command) (count : Len) :
    (s.acceptEffects c.select (offeredCount (offered c count))).remaining =
      if c.select = 6#4 ∨ c.select = 8#4 then count else 0#16 := by
  cases c <;> rfl

theorem step_latches_command {s t : State} (hf : s.cmdFire = true) (hstep : step s = .next t) :
    t.op = s.now.cmdOp ∧
      t.remaining = if s.now.cmdOp = 6#4 ∨ s.now.cmdOp = 8#4 then s.now.cmdCount else 0#16 := by
  obtain ⟨-, hrst, hidle⟩ := State.cmdFire_eq_true.mp hf
  rcases step_next hstep with
    ⟨hr, -⟩ | ⟨-, hb, -⟩ | ⟨c, -, hc, -, rfl⟩ | ⟨-, -, -, -, rfl⟩ | ⟨-, -, -, hf', -⟩
  · simp [hrst] at hr
  · simp [hidle] at hb
  · obtain ⟨hop, hrem⟩ := beginOf_keeps_latched c s.now.cmdCount
      (s.acceptEffects c.select (offeredCount (offered c s.now.cmdCount)))
    rw [Command.ofSelect_eq_some.mp hc]
    exact ⟨hop, hrem.trans (acceptEffects_remaining s c _)⟩
  · exact ⟨rfl, rfl⟩
  · simp [hf] at hf'

/-- Settles O11: without `cmd.fire` a step commutes with a change of the command inputs; with it, acceptance latches
them. -/
theorem commandInputsSampledOnlyAtFire : Obligations.CommandInputsSampledOnlyAtFire := by
  refine ⟨fun s n rest op count hs hf => ?_, fun s t => step_latches_command⟩
  have heta : s.withInputs (n :: rest) = s := hs ▸ rfl
  rw [← heta] at hf
  have hoffer : Reoffered (n :: rest) ({ n with cmdOp := op, cmdCount := count } :: rest) :=
    ⟨n, rest, n.cmdValid, op, count, rfl, rfl⟩
  exact (step_withInputs s hoffer hf hf).trans (congrArg step heta)

/-! ## The invariant of a running command -/

theorem nextChunk_toNat (r : Len) : (nextChunk r).toNat = min r.toNat 256 := by
  simp only [nextChunk, chunkMax, BitVec.toNat_ofNat]
  omega

/-- A sampled error is not success (R152). -/
theorem State.sampledErr_ne_none {s : State} {c : Command} {e : ErrKind} (h : s.sampledErr c = some e) :
    e ≠ .none := by
  rintro rfl
  revert h
  unfold State.sampledErr
  repeat' split
  all_goals simp

/-- The invariant as it reads while command `c` runs: no outcome is set yet, and the clauses of the other commands are
gone. `State.Inv.working` and `State.Working.inv` tie it to the invariant. -/
structure State.Working (s : State) (c : Command) : Prop where
  busy : s.busy = true
  command : s.command = some c
  path : onPath c s.ctrl = true
  legal : s.legal = true
  bufWf : Memory.wf s.buf = true
  settlePos : 1 ≤ s.settleCycles
  errCode : s.errCode = .none
  cdoneActive : s.cdoneActive = false
  verifyOk : s.verifyOk = false
  carry : s.addrCarry = true → c = .write ∧ s.ctrl = .fill
  readChunk : c = .read →
    1 ≤ s.chunkLen.toNat ∧ s.chunkLen = nextChunk s.remaining ∧ s.addr.toNat % 256 = 0 ∧
      s.addr.toNat + s.remaining.toNat ≤ 65535
  writeAddr : c = .write → s.addr.toNat % 256 = 0
  writeChunk : c = .write → s.ctrl ≠ .fill → 1 ≤ s.chunkLen.toNat ∧ (s.eoi = false → s.chunkLen = 256#9)
  writeFill : c = .write → s.ctrl = .fill → s.bufIdx.toNat ≤ 255 ∧ s.eoi = false
  writeData : s.ctrl = .txData → s.bufIdx.toNat < s.chunkLen.toNat
  verifyAddr : c = .verify → s.addr = 0#32
  settling : s.ctrl = .settle → 1 ≤ s.settleCnt ∧ s.settleCnt ≤ s.settleCycles
  payload : s.ctrl = .rxPay → s.rxCnt.toNat < s.rspLen.toNat ∧ (c = .read → s.rspLen = s.chunkLen)

theorem State.Inv.working {s : State} {c : Command} (h : s.Inv) (hb : s.busy = true)
    (hc : s.command = some c) : s.Working c := by
  obtain ⟨-, hdone⟩ := State.busy_eq_true.mp hb
  have command_of {c' : Command} (e : c = c') : s.command = some c' := e ▸ hc
  obtain ⟨c', hc', hpath⟩ := h.running hb
  obtain rfl : c' = c := Option.some.inj (hc'.symm.trans hc)
  exact
    { busy := hb
      command := hc
      path := hpath
      legal := h.legal
      bufWf := h.bufWf
      settlePos := h.settlePos
      errCode := by_contra fun e => hdone (h.errorEnds e)
      cdoneActive := Bool.eq_false_iff.mpr fun e => hdone (h.cdoneEnds e).1
      verifyOk := Bool.eq_false_iff.mpr fun e => hdone (h.verifyEnds e).1
      carry := fun ha => by
        obtain ⟨hw, hk⟩ := h.carryWrite ha
        exact ⟨Option.some.inj (hc.symm.trans hw), hk.resolve_right hdone⟩
      readChunk := fun e => h.readChunk hb (command_of e)
      writeAddr := fun e => (h.writeChunk hb (command_of e)).1
      writeChunk := fun e => (h.writeChunk hb (command_of e)).2.1
      writeFill := fun e => (h.writeChunk hb (command_of e)).2.2
      writeData := h.writeData
      verifyAddr := fun e => h.verifyAddr hb (command_of e)
      settling := h.settling
      payload := fun hk => ⟨(h.payload hk).1, fun e => (h.payload hk).2 (command_of e)⟩ }

theorem State.Working.inv {s : State} {c : Command} (h : s.Working c) : s.Inv := by
  obtain ⟨-, hdone⟩ := State.busy_eq_true.mp h.busy
  have eq_of {c' : Command} (e : s.command = some c') : c = c' := Option.some.inj (h.command.symm.trans e)
  exact
    { legal := h.legal
      bufWf := h.bufWf
      settlePos := h.settlePos
      running := fun _ => ⟨c, h.command, h.path⟩
      errorEnds := fun e => absurd h.errCode e
      cdoneEnds := fun e => by simp [h.cdoneActive] at e
      verifyEnds := fun e => by simp [h.verifyOk] at e
      carryWrite := fun e => ⟨(h.carry e).1 ▸ h.command, .inl (h.carry e).2⟩
      readChunk := fun _ e => h.readChunk (eq_of e)
      readEnds := fun e => absurd e hdone
      writeChunk := fun _ e => ⟨h.writeAddr (eq_of e), h.writeChunk (eq_of e), h.writeFill (eq_of e)⟩
      writeData := h.writeData
      verifyAddr := fun _ e => h.verifyAddr (eq_of e)
      settling := h.settling
      payload := fun hk => ⟨(h.payload hk).1, fun e => (h.payload hk).2 (eq_of e)⟩ }

theorem State.Working.addrCarry_eq_false {s : State} {c : Command} (h : s.Working c) (hc : c ≠ .write) :
    s.addrCarry = false :=
  Bool.eq_false_iff.mpr fun ha => hc (h.carry ha).1

/-! ## The invariant at the ends of operations -/

/-- What the invariant asks of a CORE whose operation has ended. -/
theorem State.Inv.of_done {s : State} (hk : s.ctrl = .done) (hl : s.legal = true)
    (hbuf : Memory.wf s.buf = true) (hsettle : 1 ≤ s.settleCycles)
    (hcdone : s.cdoneActive = true → s.command = some .cdone)
    (hverify : s.verifyOk = true → s.command = some .verify ∧ s.devCrc = s.digest)
    (hcarry : s.addrCarry = true → s.command = some .write)
    (hread : s.command = some .read → s.errCode = .none → s.remaining = 0#16) : s.Inv := by
  have hb : s.busy ≠ true := by simp [State.busy, hk]
  exact
    { legal := hl
      bufWf := hbuf
      settlePos := hsettle
      running := fun e => absurd e hb
      errorEnds := fun _ => hk
      cdoneEnds := fun e => ⟨hk, hcdone e⟩
      verifyEnds := fun e => ⟨hk, hverify e⟩
      carryWrite := fun e => ⟨hcarry e, .inr hk⟩
      readChunk := fun e => absurd e hb
      readEnds := fun _ => hread
      writeChunk := fun e => absurd e hb
      writeData := fun e => by simp [hk] at e
      verifyAddr := fun e => absurd e hb
      settling := fun e => by simp [hk] at e
      payload := fun e => by simp [hk] at e }

/-- What the invariant asks of the end of a running operation. -/
theorem State.Working.ended {s t : State} {c : Command} (h : s.Working c) (hk : t.ctrl = .done)
    (hop : t.op = s.op) (hl : t.legal = true) (hbuf : Memory.wf t.buf = true)
    (hsettle : t.settleCycles = s.settleCycles) (hcdone : t.cdoneActive = true → c = .cdone)
    (hverify : t.verifyOk = true → c = .verify ∧ t.devCrc = t.digest) (hcarry : t.addrCarry = true → c = .write)
    (hread : c = .read → t.errCode = .none → t.remaining = 0#16) : t.Inv := by
  have hcmd : t.command = some c := by rw [State.command, hop]; exact h.command
  exact .of_done hk hl hbuf (hsettle ▸ h.settlePos) (fun e => hcdone e ▸ hcmd)
    (fun e => ⟨(hverify e).1 ▸ hcmd, (hverify e).2⟩) (fun e => hcarry e ▸ hcmd)
    fun e => hread (Option.some.inj (hcmd.symm.trans e))

theorem State.Working.raise {s : State} {c : Command} (h : s.Working c) {e : ErrKind} (he : e ≠ .none) :
    (s.raise e).Inv :=
  h.ended rfl rfl h.legal h.bufWf rfl (by simp [h.cdoneActive]) (by simp [h.verifyOk]) (fun ha => (h.carry ha).1)
    fun _ e => absurd e he

theorem State.Working.finish {s : State} {c : Command} (h : s.Working c) (hr : c ≠ .read) : s.finish.Inv :=
  h.ended rfl rfl h.legal h.bufWf rfl (by simp [h.cdoneActive]) (by simp [h.verifyOk]) (fun ha => (h.carry ha).1)
    fun e => absurd e hr

/-- A state that waits on a transfer keeps the invariant where the action does (R153, R160). -/
theorem State.Working.onTransfer {s act : State} {c : Command} (h : s.Working c) (fire : Bool) (hact : act.Inv) :
    (s.onTransfer c fire act).Inv := by
  rcases s.onTransfer_cases act c fire with ⟨e, he, heq⟩ | ⟨-, -, heq⟩ | ⟨-, -, heq⟩ <;> rw [heq]
  · exact h.raise (State.sampledErr_ne_none he)
  · exact hact
  · exact h.inv

/-! ## The invariant inside a round trip (R113 to R115, R131, R134, R156, R204) -/

/-- `t` has the chunk, the address and the outcome of `s`: what no cycle inside a round trip writes. -/
structure State.SameChunk (s t : State) : Prop where
  op : t.op = s.op
  addr : t.addr = s.addr
  addrCarry : t.addrCarry = s.addrCarry
  remaining : t.remaining = s.remaining
  chunkLen : t.chunkLen = s.chunkLen
  buf : t.buf = s.buf
  eoi : t.eoi = s.eoi
  errCode : t.errCode = s.errCode
  cdoneActive : t.cdoneActive = s.cdoneActive
  verifyOk : t.verifyOk = s.verifyOk
  settleCycles : t.settleCycles = s.settleCycles

/-- A cycle inside a round trip keeps the invariant where it keeps the legal ranges and meets what the invariant says of
the controller state `k` it goes to. -/
theorem State.Working.within {s t : State} {c : Command} (h : s.Working c) (hs : s.ctrl ≠ .fill)
    {k : Ctrl} (ht : t.ctrl = k) (hpath : onPath c k = true) (hl : t.legal = true)
    (hsame : s.SameChunk t := by constructor <;> rfl) (hk : k ∉ [Ctrl.idle, .done, .fill] := by decide)
    (hdata : k = .txData → t.bufIdx.toNat < s.chunkLen.toNat := by nofun)
    (hsettle : k = .settle → 1 ≤ t.settleCnt ∧ t.settleCnt ≤ s.settleCycles := by nofun)
    (hpay : k = .rxPay → t.rxCnt.toNat < t.rspLen.toNat ∧ (c = .read → t.rspLen = s.chunkLen) := by nofun) :
    t.Working c := by
  obtain ⟨eop, eaddr, ecarry, erem, echunk, ebuf, eeoi, eerr, ecdone, everify, ecycles⟩ := hsame
  subst ht
  simp only [List.mem_cons, List.not_mem_nil, or_false, not_or] at hk
  obtain ⟨hidle, hdone, hfill⟩ := hk
  exact
    { busy := State.busy_eq_true.mpr ⟨hidle, hdone⟩
      command := by rw [State.command, eop]; exact h.command
      path := hpath
      legal := hl
      bufWf := ebuf ▸ h.bufWf
      settlePos := ecycles ▸ h.settlePos
      errCode := eerr.trans h.errCode
      cdoneActive := ecdone.trans h.cdoneActive
      verifyOk := everify.trans h.verifyOk
      carry := fun e => absurd (h.carry (ecarry ▸ e)).2 hs
      readChunk := by rw [eaddr, erem, echunk]; exact h.readChunk
      writeAddr := eaddr ▸ h.writeAddr
      writeChunk := fun e _ => by rw [echunk, eeoi]; exact h.writeChunk e hs
      writeFill := fun _ e => absurd e hfill
      writeData := echunk ▸ hdata
      verifyAddr := eaddr ▸ h.verifyAddr
      settling := ecycles ▸ hsettle
      payload := echunk ▸ hpay }

theorem State.Working.afterOpcode {s : State} {c : Command} (h : s.Working c) (hk : s.ctrl = .txOp) :
    (s.afterOpcode c).Working c := by
  have hfill : s.ctrl ≠ .fill := by simp [hk]
  obtain ⟨-, hrest⟩ := State.legal_iff.mp h.legal
  unfold State.afterOpcode
  split
  next => exact h.within hfill (k := .rxLen) rfl rfl h.legal
  next hf =>
    exact h.within hfill (k := .txHdr) rfl (by simpa [onPath] using hf)
      (State.legal_iff.mpr ⟨Nat.zero_le _, hrest⟩)

theorem State.Working.afterHeaderByte {s : State} {c : Command} (h : s.Working c) (hk : s.ctrl = .txHdr) :
    (s.afterHeaderByte c).Working c := by
  have hfill : s.ctrl ≠ .fill := by simp [hk]
  obtain ⟨htx, hchunk, hidx, hrsp, hrx⟩ := State.legal_iff.mp h.legal
  unfold State.afterHeaderByte
  split
  next =>
    split
    next hw =>
      exact h.within hfill (k := .txData) rfl (by simp [onPath, hw])
        (State.legal_iff.mpr ⟨htx, hchunk, Nat.zero_le _, hrsp, hrx⟩)
        (hdata := fun _ => (h.writeChunk hw hfill).1)
    next => exact h.within hfill (k := .rxLen) rfl rfl h.legal
  next hmore =>
    have hnext : (s.txIdx + 1#3).toNat ≤ 5 := by bv_omega
    exact h.within hfill (k := .txHdr) hk (hk ▸ h.path)
      (State.legal_iff.mpr ⟨hnext, hchunk, hidx, hrsp, hrx⟩)

theorem State.Working.afterDataByte {s : State} {c : Command} (h : s.Working c) (hk : s.ctrl = .txData) :
    s.afterDataByte.Working c := by
  have hfill : s.ctrl ≠ .fill := by simp [hk]
  have hpath : onPath c .txData = true := hk ▸ h.path
  have hlt := h.writeData hk
  obtain ⟨htx, hchunk, hidx, hrsp, hrx⟩ := State.legal_iff.mp h.legal
  unfold State.afterDataByte
  split
  next =>
    exact h.within hfill (k := .settle) rfl hpath h.legal (hsettle := fun _ => ⟨h.settlePos, le_rfl⟩)
  next hmore =>
    have hnext : (s.bufIdx + 1#9).toNat < s.chunkLen.toNat := by bv_omega
    exact h.within hfill (k := .txData) hk hpath
      (State.legal_iff.mpr ⟨htx, hchunk, hnext.le.trans hchunk, hrsp, hrx⟩) (hdata := fun _ => hnext)

theorem State.Working.settleCycle {s : State} {c : Command} (h : s.Working c) (hk : s.ctrl = .settle) :
    s.settleCycle.Working c := by
  have hfill : s.ctrl ≠ .fill := by simp [hk]
  obtain ⟨-, hle⟩ := h.settling hk
  unfold State.settleCycle
  split
  next => exact h.within hfill (k := .rxLen) rfl rfl h.legal
  next hmore =>
    exact h.within hfill (k := .settle) hk (hk ▸ h.path) h.legal
      (hsettle := fun _ => ⟨by simp only; omega, by simp only; omega⟩)

theorem State.Working.takeLength {s : State} {c : Command} (h : s.Working c) (hk : s.ctrl = .rxLen) :
    (s.takeLength c).Inv := by
  have hfill : s.ctrl ≠ .fill := by simp [hk]
  obtain ⟨htx, hchunk, hidx, hrsp, hrx⟩ := State.legal_iff.mp h.legal
  have hbyte : (s.now.rxData.setWidth 9).toNat ≤ 256 := by
    have := s.now.rxData.isLt
    rw [BitVec.toNat_setWidth]
    omega
  have hcount : (s.pcount c s.now.rxData).toNat ≤ 256 := by
    unfold State.pcount
    split <;> assumption
  unfold State.takeLength
  split
  next =>
    refine State.Working.inv (c := c) ?_
    split
    next =>
      exact h.within hfill (k := .check) rfl rfl
        (State.legal_iff.mpr ⟨htx, hchunk, hidx, hcount, Nat.zero_le _⟩)
    next hne =>
      have hpos : 0 < (s.pcount c s.now.rxData).toNat := by bv_omega
      exact h.within hfill (k := .rxPay) rfl rfl
        (State.legal_iff.mpr ⟨htx, hchunk, hidx, hcount, Nat.zero_le _⟩)
        (hpay := fun _ => ⟨hpos, fun hr => by simp [State.pcount, hr]⟩)
  next =>
    have hw : ({ s with rspLen := s.now.rxData.setWidth 9 } : State).Working c :=
      h.within hfill (k := .rxLen) hk rfl (State.legal_iff.mpr ⟨htx, hchunk, hidx, hbyte, hrx⟩)
    exact hw.raise (by decide)

theorem State.Working.takePayload {s : State} {c : Command} (h : s.Working c) (hk : s.ctrl = .rxPay) :
    (s.takePayload c).Working c := by
  have hfill : s.ctrl ≠ .fill := by simp [hk]
  obtain ⟨htx, hchunk, hidx, hrsp, hrx⟩ := State.legal_iff.mp h.legal
  obtain ⟨hlt, hlen⟩ := h.payload hk
  unfold State.takePayload
  split
  next => exact h.within hfill (k := .check) rfl rfl h.legal
  next hmore =>
    have hnext : (s.rxCnt + 1#9).toNat < s.rspLen.toNat := by bv_omega
    exact h.within hfill (k := .rxPay) hk rfl
      (State.legal_iff.mpr ⟨htx, hchunk, hidx, hrsp, Nat.le_of_lt_succ (hnext.trans_le hrsp)⟩)
      (hpay := fun _ => ⟨hnext, hlen⟩)

theorem State.Working.takeCrc {s : State} {c : Command} (h : s.Working c) (hk : s.ctrl = .crcRun) :
    s.takeCrc.Working c := by
  have hfill : s.ctrl ≠ .fill := by simp [hk]
  unfold State.takeCrc
  split
  next => exact h.within hfill (k := .txOp) rfl rfl h.legal
  next => exact h.within hfill (k := .crcRun) hk (hk ▸ h.path) h.legal

/-! ## The invariant while WRITE fills a chunk (R250) -/

/-- A chunk that is ready is sent, or refused past the address space (R195, R277). -/
theorem State.Working.chunkReady {s : State} (h : s.Working .write) (b : List Host.Cell) (e : Bool) {n : Count}
    (hbuf : Memory.wf b = true) (hpos : 1 ≤ n.toNat) (hle : n.toNat ≤ 256) (hfull : e = false → n = 256#9) :
    ({ s with buf := b, eoi := e }.chunkReady n).Inv := by
  obtain ⟨htx, -, hidx, hrsp, hrx⟩ := State.legal_iff.mp h.legal
  unfold State.chunkReady
  split
  next =>
    exact h.ended rfl rfl h.legal hbuf rfl (by simp [h.cdoneActive]) (by simp [h.verifyOk]) (fun _ => rfl) nofun
  next hcarry =>
    exact State.Working.inv (c := .write)
      { h with
        busy := rfl
        path := rfl
        legal := State.legal_iff.mpr ⟨htx, hle, hidx, hrsp, hrx⟩
        bufWf := hbuf
        carry := fun ha => absurd ha hcarry
        readChunk := nofun
        writeChunk := fun _ _ => ⟨hpos, hfull⟩
        writeFill := nofun
        writeData := nofun
        settling := nofun
        payload := nofun }

theorem State.fillIndex_lt (s : State) : s.fillIndex < 256 :=
  Nat.mod_lt _ (by decide)

theorem State.Working.takeFill {s : State} (h : s.Working .write) (hk : s.ctrl = .fill) : s.takeFill.Inv := by
  obtain ⟨htx, hchunk, hidx, hrsp, hrx⟩ := State.legal_iff.mp h.legal
  obtain ⟨hroom, heoi⟩ := h.writeFill rfl hk
  have hstored : Memory.wf s.storeByte.buf = true := Memory.wf_write _ _ _ h.bufWf s.fillIndex_lt
  unfold State.takeFill
  split
  next =>
    split
    next =>
      exact h.ended rfl rfl h.legal h.bufWf rfl (by simp [h.cdoneActive]) (by simp [h.verifyOk]) (fun _ => rfl) nofun
    next hne => exact h.chunkReady s.buf true h.bufWf (by bv_omega) hidx nofun
  next =>
    split
    next => exact h.chunkReady s.storeByte.buf s.eoi hstored (by decide) (by decide) fun _ => rfl
    next hmore =>
      have hnext : (s.bufIdx + 1#9).toNat ≤ 255 := by bv_omega
      exact State.Working.inv (c := .write)
        { h with
          legal := State.legal_iff.mpr ⟨htx, hchunk, hnext.trans (by decide), hrsp, hrx⟩
          bufWf := hstored
          writeFill := fun _ _ => ⟨hnext, heoi⟩
          writeData := fun e => by simp [hk] at e }

/-! ## The invariant at the checks (R222 to R226, R240, R251, R260) -/

theorem State.Working.checkMarker {s : State} {c : Command} (h : s.Working c) (hr : c ≠ .read) (m : Byte) :
    (s.checkMarker m).Inv := by
  unfold State.checkMarker
  split
  next => exact h.finish hr
  next => exact h.raise (by decide)

theorem State.Working.checkCdone {s : State} (h : s.Working .cdone) : s.checkCdone.Inv := by
  unfold State.checkCdone
  split
  next =>
    exact h.ended rfl rfl h.legal h.bufWf rfl (fun _ => rfl) (by simp [h.verifyOk]) (fun ha => (h.carry ha).1) nofun
  next =>
    split
    next => exact State.Working.finish (c := .cdone) { h with cdoneActive := rfl } (by decide)
    next => exact h.raise (by decide)

theorem State.Working.checkVerify {s : State} (h : s.Working .verify) : s.checkVerify.Inv := by
  unfold State.checkVerify
  split
  next hequal =>
    exact h.ended rfl rfl h.legal h.bufWf rfl (by simp [h.cdoneActive]) (fun _ => ⟨rfl, hequal⟩)
      (fun ha => (h.carry ha).1) nofun
  next => exact h.raise (by decide)

/-- The arithmetic of READ's advance: by a chunk of min(remaining, 256) bytes, without a carry or a borrow
(R192 to R194). -/
theorem State.Working.read_advance {s : State} (h : s.Working .read) :
    s.advanceSum < 2 ^ 32 ∧ s.advanceSum = s.addr.toNat + min s.remaining.toNat 256 ∧
      s.remainingAfter.toNat = s.remaining.toNat - min s.remaining.toNat 256 := by
  obtain ⟨-, hchunk, -, hsum⟩ := h.readChunk rfl
  have hlen : s.chunkLen.toNat = min s.remaining.toNat 256 := by rw [hchunk, nextChunk_toNat]
  have hadv : s.advanceSum = s.addr.toNat + min s.remaining.toNat 256 := by rw [State.advanceSum, hlen]
  refine ⟨by omega, hadv, ?_⟩
  have := s.remaining.isLt
  rw [State.remainingAfter, BitVec.toNat_sub, BitVec.toNat_setWidth, hlen]
  omega

theorem State.Working.checkRead {s : State} (h : s.Working .read) : s.checkRead.Inv := by
  obtain ⟨hlt, hadv, hrem⟩ := h.read_advance
  obtain ⟨-, -, halign, hsum⟩ := h.readChunk rfl
  obtain ⟨htx, -, hidx, hrsp, hrx⟩ := State.legal_iff.mp h.legal
  have hcarry : s.consumeChunk.addrCarry ≠ true := by
    simpa [h.addrCarry_eq_false] using hlt
  unfold State.checkRead
  split
  next hzero =>
    exact h.ended rfl rfl h.legal h.bufWf rfl (by simp [h.cdoneActive]) (by simp [h.verifyOk])
      (fun ha => absurd ha hcarry) fun _ _ => hzero
  next hmore =>
    have hpos : 0 < s.remainingAfter.toNat := by bv_omega
    have haddr : s.consumeChunk.addr.toNat = s.addr.toNat + 256 := by
      rw [State.consumeChunk_addr, BitVec.toNat_ofNat, Nat.mod_eq_of_lt hlt]
      omega
    have hnext := nextChunk_toNat s.remainingAfter
    have hchunk : 1 ≤ (nextChunk s.remainingAfter).toNat ∧ (nextChunk s.remainingAfter).toNat ≤ 256 := by omega
    have halign' : s.consumeChunk.addr.toNat % 256 = 0 := by omega
    have hsum' : s.consumeChunk.addr.toNat + s.remainingAfter.toNat ≤ 65535 := by omega
    exact State.Working.inv (c := .read)
      { h with
        busy := rfl
        path := rfl
        legal := State.legal_iff.mpr ⟨htx, hchunk.2, hidx, hrsp, hrx⟩
        carry := fun ha => absurd ha hcarry
        readChunk := fun _ => ⟨hchunk.1, rfl, halign', hsum'⟩
        writeAddr := nofun
        writeChunk := nofun
        writeFill := nofun
        writeData := nofun
        verifyAddr := nofun
        settling := nofun
        payload := nofun }

theorem State.Working.checkWrite {s : State} (h : s.Working .write) (hk : s.ctrl = .check) :
    s.checkWrite.Inv := by
  obtain ⟨-, hfull⟩ := h.writeChunk rfl (by simp [hk])
  have halign := h.writeAddr rfl
  obtain ⟨htx, hchunk, -, hrsp, hrx⟩ := State.legal_iff.mp h.legal
  unfold State.checkWrite
  split
  next =>
    split
    next =>
      exact h.ended rfl rfl h.legal h.bufWf rfl (by simp [h.cdoneActive]) (by simp [h.verifyOk]) (fun _ => rfl) nofun
    next hmore =>
      have heoi : s.eoi = false := Bool.eq_false_iff.mpr hmore
      have halign' : s.advance.addr.toNat % 256 = 0 := by
        simp only [State.advance, State.advanceSum, hfull heoi, BitVec.toNat_ofNat]
        omega
      exact State.Working.inv (c := .write)
        { h with
          busy := rfl
          path := rfl
          legal := State.legal_iff.mpr ⟨htx, hchunk, Nat.zero_le _, hrsp, hrx⟩
          carry := fun _ => ⟨rfl, rfl⟩
          readChunk := nofun
          writeAddr := fun _ => halign'
          writeChunk := fun _ e => absurd rfl e
          writeFill := fun _ _ => ⟨Nat.zero_le _, heoi⟩
          writeData := nofun
          verifyAddr := nofun
          settling := nofun
          payload := nofun }
  next => exact h.raise (by decide)

theorem State.Working.check {s : State} {c : Command} (h : s.Working c) (hk : s.ctrl = .check) :
    (checkOf c s).Inv := by
  cases c with
  | fwver | serial => exact h.finish (by decide)
  | halt | start | erase => exact h.checkMarker (by decide) _
  | cdone => exact h.checkCdone
  | read => exact h.checkRead
  | write => exact h.checkWrite hk
  | verify => exact h.checkVerify

/-! ## The invariant over a step -/

/-- A busy cycle keeps the invariant, by the controller state it starts in. -/
theorem State.Working.commandCycle {s : State} {c : Command} (h : s.Working c) (count : Len)
    (begin : State → State) : (s.commandCycle c count begin (checkOf c)).Inv := by
  have hpath := h.path
  obtain ⟨hidle, hdone⟩ := State.busy_eq_true.mp h.busy
  unfold State.commandCycle
  split
  next hk => exact absurd hk hidle
  next hk => exact absurd hk hdone
  next hk => exact h.onTransfer _ (h.afterOpcode hk).inv
  next hk => exact h.onTransfer _ (h.afterHeaderByte hk).inv
  next hk => exact h.onTransfer _ (h.afterDataByte hk).inv
  next hk => exact (h.settleCycle hk).inv
  next hk => exact h.onTransfer _ (h.takeLength hk)
  next hk => exact h.onTransfer _ (h.takePayload hk).inv
  next hk => exact h.check hk
  next hk =>
    obtain rfl : c = .write := by simpa [hk, onPath] using hpath
    exact h.onTransfer _ (h.takeFill hk)
  next hk => exact h.onTransfer _ (h.takeCrc hk).inv

/-- Acceptance of a command other than READ puts it in its first state (R154, R155). -/
theorem State.Inv.accepted {s : State} (h : s.Inv) {c : Command} {k : Ctrl} (count : Len) (hc : c ≠ .read)
    (hk : k ∈ [Ctrl.txOp, .fill, .crcRun]) (hpath : onPath c k = true) (hfill : c = .write → k = .fill) :
    ({ s.acceptEffects c.select count with ctrl := k } : State).Inv :=
  State.Working.inv (c := c)
    { busy := by rw [State.busy_eq_true]; constructor <;> (rintro rfl; simp at hk)
      command := Command.ofSelect_select c
      path := hpath
      legal := rfl
      bufWf := h.bufWf
      settlePos := h.settlePos
      errCode := rfl
      cdoneActive := rfl
      verifyOk := rfl
      carry := nofun
      readChunk := fun e => absurd e hc
      writeAddr := fun _ => rfl
      writeChunk := fun e he => absurd (hfill e) he
      writeFill := fun _ _ => ⟨Nat.zero_le _, rfl⟩
      writeData := fun e => by subst e; simp at hk
      verifyAddr := fun _ => rfl
      settling := fun e => by subst e; simp at hk
      payload := fun e => by subst e; simp at hk }

/-- Acceptance of READ ends at once for a count of 0, and starts the first chunk otherwise (R191). -/
theorem State.Inv.accepted_read {s : State} (h : s.Inv) (count : Len) :
    (State.beginRead count (s.acceptEffects (Command.select .read) count)).Inv := by
  unfold State.beginRead
  split
  next hzero => exact .of_done rfl rfl h.bufWf h.settlePos nofun nofun nofun fun _ _ => hzero
  next hmore =>
    have hlen := nextChunk_toNat count
    have hchunk : 1 ≤ (nextChunk count).toNat ∧ (nextChunk count).toNat ≤ 256 := by bv_omega
    have hsum : (0#32).toNat + count.toNat ≤ 65535 := by
      have := count.isLt
      simp only [BitVec.toNat_ofNat]
      omega
    exact State.Working.inv (c := .read)
      { busy := rfl
        command := rfl
        path := rfl
        legal := State.legal_iff.mpr
          ⟨Nat.zero_le _, hchunk.2, Nat.zero_le _, Nat.zero_le _, Nat.zero_le _⟩
        bufWf := h.bufWf
        settlePos := h.settlePos
        errCode := rfl
        cdoneActive := rfl
        verifyOk := rfl
        carry := nofun
        readChunk := fun _ => ⟨hchunk.1, rfl, rfl, hsum⟩
        writeAddr := nofun
        writeChunk := nofun
        writeFill := nofun
        writeData := nofun
        verifyAddr := nofun
        settling := nofun
        payload := nofun }

theorem State.Inv.beginOf_accepted {s : State} (h : s.Inv) (c : Command) (count : Len) :
    (beginOf (offered c count) (s.acceptEffects c.select (offeredCount (offered c count)))).Inv := by
  cases c with
  | fwver | halt | start | cdone | erase | serial =>
    exact h.accepted (k := .txOp) 0#16 (by decide) (by decide) rfl nofun
  | read => exact h.accepted_read count
  | write => exact h.accepted (c := .write) (k := .fill) 0#16 (by decide) (by decide) rfl fun _ => rfl
  | verify => exact h.accepted (c := .verify) (k := .crcRun) count (by decide) (by decide) rfl nofun

theorem State.Inv.accepted_badOp {s : State} (h : s.Inv) (op : BitVec 4) (count : Len) :
    ((s.acceptEffects op count).raise .badOp).Inv :=
  .of_done rfl rfl h.bufWf h.settlePos nofun nofun nofun nofun

theorem State.Inv.resetRegs {s : State} (h : s.Inv) : s.resetRegs.Inv where
  legal := rfl
  bufWf := h.bufWf
  settlePos := h.settlePos
  running := nofun
  errorEnds := fun e => absurd rfl e
  cdoneEnds := nofun
  verifyEnds := nofun
  carryWrite := nofun
  readChunk := nofun
  readEnds := nofun
  writeChunk := nofun
  writeData := nofun
  verifyAddr := nofun
  settling := nofun
  payload := nofun

/-- The clock edge writes no register. -/
theorem State.Inv.tick {s : State} (h : s.Inv) (m : List Transfer) : (s.tick m).Inv :=
  { h with }

/-- Settles O58, by the five things a step can do. -/
theorem stepKeepsInvariant : Obligations.StepKeepsInvariant := by
  intro s t h hstep
  rcases step_next hstep with
    ⟨-, rfl⟩ | ⟨c, hb, hc, -, rfl⟩ | ⟨c, -, -, -, rfl⟩ | ⟨-, -, -, -, rfl⟩ | ⟨-, -, -, -, rfl⟩
  · exact h.resetRegs.tick _
  · exact ((h.working hb hc).commandCycle _ _).tick _
  · exact (h.beginOf_accepted c _).tick _
  · exact (h.accepted_badOp _ _).tick _
  · exact h.tick _

/-! ## No step stops under the invariant -/

theorem State.Inv.stop_eq_none {s : State} (h : s.Inv) {c : Command}
    (hc : s.busy = true → s.command = some c) : s.stop c = none := by
  rw [State.stop_eq_none]
  by_cases hb : s.busy = true
  · have hw := h.working hb (hc hb)
    obtain ⟨-, hle, -⟩ := State.legal_iff.mp h.legal
    refine ⟨h.legal, hw.path, fun ⟨hk, hidx⟩ => ?_, fun ⟨_, hr, hlt⟩ => ?_⟩
    · have hdata := h.writeData hk
      rw [hidx] at hdata
      exact absurd (hdata.trans_le hle) (by decide)
    · obtain ⟨-, hchunk, -⟩ := hw.readChunk hr
      rw [hchunk, nextChunk_toNat] at hlt
      omega
  · rcases State.busy_eq_false.mp (Bool.eq_false_iff.mpr hb) with hk | hk <;> simp [hk, h.legal, onPath]

theorem exec_isNext {s : State} {i : Instr} (h : s.stop i.command = none) : ∃ t, exec i s = .next t := by
  rw [exec_eq_clocked, State.clocked, h]
  split <;> exact ⟨_, rfl⟩

theorem State.idleCycle_isNext {s : State} (hl : s.legal = true) (hb : s.busy = false) :
    ∃ t, s.idleCycle = .next t := by
  rw [State.idleCycle, hl, hb]
  split
  · exact ⟨_, rfl⟩
  · simp only [Bool.true_eq_false, Bool.false_eq_true, if_false]
    split <;> exact ⟨_, rfl⟩

theorem State.command_of_fetch {s : State} {i : Instr} (hb : s.busy = true) (hf : s.fetch = some i) :
    s.command = some i.command := by
  rw [State.fetch, if_pos hb, Option.map_eq_some_iff] at hf
  obtain ⟨c, hc, rfl⟩ := hf
  rw [hc, s.frame_command]

theorem State.Inv.busy_eq_false_of_fetch {s : State} (h : s.Inv) (hf : s.fetch = none) : s.busy = false := by
  refine Bool.eq_false_iff.mpr fun hb => ?_
  obtain ⟨c, hc, -⟩ := h.running hb
  simp [State.fetch_busy hb hc] at hf

/-- Settles O59: with an instruction in hand no stop of the cycle applies, and with none the CORE is not busy. -/
theorem invariantNeverStops : Obligations.InvariantNeverStops := by
  intro s h
  unfold step
  split
  next i hf => exact exec_isNext (h.stop_eq_none fun hb => State.command_of_fetch hb hf)
  next hf => exact State.idleCycle_isNext h.legal (h.busy_eq_false_of_fetch hf)

end Sys2Proof.Machine
end

section
/-! PROOFS of the statements of 20_memory.md: the frames the CORE sends (R65, R66, R81). -/

namespace Sys2Proof.Machine

/-! ## What a frame in hand carries -/

@[simp] theorem Memory.length_slice (m : List Host.Cell) (i n : Nat) : (Memory.slice m i n).length = n := by
  induction n generalizing i with
  | zero => rfl
  | succ n ih => simp [Memory.slice, ih]

/-- Outside VERIFY the 16-bit length field is the chunk length, without loss (R112). -/
theorem State.lenField_toNat {s : State} {c : Command} (hc : c ≠ .verify) :
    (s.lenField c).toNat = s.chunkLen.toNat := by
  rw [State.lenField, if_neg hc, BitVec.toNat_setWidth_of_le (by decide)]

/-- The data of a write-flash frame are counted by its length field, whatever the registers hold (R81). -/
theorem State.frame_wellFormed (s : State) (c : Command) : (s.frame c).wellFormed = true := by
  cases c with
  | write => simp [State.frame, Instr.wellFormed, State.lenField_toNat]
  | fwver | halt | start | cdone | erase | serial | read | verify => rfl

/-! ## The frames of a running command -/

/-- A chunk of 1 to 256 bytes at a multiple of 256 makes a frame the rules allow, for READ and WRITE alike (R65, R66). -/
theorem State.frame_sendable_of_chunk {s : State} {c : Command} (hc : c ≠ .verify) (haddr : s.addr.toNat % 256 = 0)
    (hpos : 1 ≤ s.chunkLen.toNat) (hmax : s.chunkLen.toNat ≤ 256) : (s.frame c).sendable = true := by
  cases c with
  | fwver | halt | start | cdone | erase | serial => rfl
  | read | write => simp [State.frame, Instr.sendable, State.lenField_toNat, haddr, hpos, hmax]
  | verify => exact absurd rfl hc

/-- A running command has a frame the rules allow in hand, but for a WRITE that is still filling its chunk. -/
theorem State.Working.frame_sendable {s : State} {c : Command} (h : s.Working c) (hfill : s.ctrl ≠ .fill) :
    (s.frame c).sendable = true := by
  obtain ⟨-, hmax, -⟩ := State.legal_iff.mp h.legal
  cases c with
  | fwver | halt | start | cdone | erase | serial => rfl
  | read =>
    obtain ⟨hpos, -, haddr, -⟩ := h.readChunk rfl
    exact State.frame_sendable_of_chunk (by decide) haddr hpos hmax
  | write =>
    obtain ⟨hpos, -⟩ := h.writeChunk rfl hfill
    exact State.frame_sendable_of_chunk (by decide) (h.writeAddr rfl) hpos hmax
  | verify => simp [State.frame, Instr.sendable, h.verifyAddr rfl]

/-- Settles O60: a state that sends is busy and not filling, and there the invariant bounds the chunk and its address. -/
theorem framesSentAreSendable : Obligations.FramesSentAreSendable := by
  intro s c h hc htx
  have hbusy : s.busy = true :=
    State.busy_eq_true.mpr ⟨fun hk => by simp [hk] at htx, fun hk => by simp [hk] at htx⟩
  have hfill : s.ctrl ≠ .fill := fun hk => by simp [hk] at htx
  exact ⟨(h.working hbusy hc).frame_sendable hfill, s.frame_wellFormed c⟩

end Sys2Proof.Machine
end

section
/-! PROOFS of the statements of 30_encoding.md: the decoder and the encoder (R81 to R95), the commands a select value
starts (R95, R96), and the digest of a verify-crc response (R88). -/

namespace Sys2Proof

/-! ## The bytes after the opcode -/

/-- The bytes of a frame after its opcode byte: address, length and data, as far as the format has them (R81). -/
def Instr.fieldBytes : Instr → List Byte
  | .fwver | .halt | .start | .cdone | .erase | .serial => []
  | .read a l | .verify a l => addressBytes a ++ lengthBytes l
  | .write a l d => addressBytes a ++ lengthBytes l ++ d

theorem encode_eq_opcode_cons (i : Instr) : encode i = i.command.opcode :: i.fieldBytes := by
  cases i <;> rfl

@[simp] theorem Instr.wellFormed_write (a : Word) (l : Len) (d : List Byte) :
    (Instr.write a l d).wellFormed = true ↔ d.length = l.toNat := by
  simp [Instr.wellFormed]

/-- The decoder reads back the fields of a well-formed frame, whatever follows (R81, R90). -/
theorem decodeFields_fieldBytes {i : Instr} (h : i.wellFormed = true) (rest : List Byte) :
    decodeFields i.command (i.fieldBytes ++ rest) = .ok (i, rest) := by
  cases i with
  | fwver | halt | start | cdone | erase | serial => rfl
  | read a l | verify a l =>
    simp [Instr.command, Instr.fieldBytes, decodeFields, decodeHeader_fields]
  | write a l d =>
    have hlen := (Instr.wellFormed_write a l d).mp h
    simp [Instr.command, Instr.fieldBytes, decodeFields, decodeHeader_fields, ← hlen]

/-- Fields the decoder accepts are those of a well-formed frame of the command, in the bytes read (R81, R90). -/
theorem decodeFields_eq_ok {c : Command} {i : Instr} {bs rest : List Byte}
    (h : decodeFields c bs = .ok (i, rest)) :
    i.command = c ∧ i.wellFormed = true ∧ i.fieldBytes ++ rest = bs := by
  cases c with
  | fwver | halt | start | cdone | erase | serial =>
    cases h
    exact ⟨rfl, rfl, rfl⟩
  | read | verify =>
    simp only [decodeFields] at h
    split at h
    next hd =>
      cases h
      exact ⟨rfl, rfl, (decodeHeader_eq_some hd).symm⟩
    next => cases h
  | write =>
    simp only [decodeFields] at h
    split at h
    next a l tail hd =>
      split at h
      next hle =>
        cases h
        exact ⟨rfl, by simpa using hle, by simp [Instr.fieldBytes, decodeHeader_eq_some hd]⟩
      next => cases h
    next => cases h

/-- Once the opcode is known, only the header or the data can be too short. -/
theorem decodeFields_ne_reserved (c : Command) (bs : List Byte) (b : Byte) :
    decodeFields c bs ≠ .error (.reservedOpcode b) := by
  unfold decodeFields
  repeat' split
  all_goals simp

/-! ## The decoder and the encoder -/

@[simp] theorem decode_opcode_cons (c : Command) (bs : List Byte) :
    decode (c.opcode :: bs) = decodeFields c bs := by
  simp [decode]

theorem decode_of_ofOpcode_eq_none {b : Byte} (h : Command.ofOpcode b = none) (bs : List Byte) :
    decode (b :: bs) = .error (.reservedOpcode b) := by
  simp [decode, h]

/-- Settles O1: the opcode selects the command, and its fields are read back. -/
theorem decodeOfEncodedFrame : Obligations.DecodeOfEncodedFrame := by
  intro i rest h
  rw [encode_eq_opcode_cons, List.cons_append, decode_opcode_cons, decodeFields_fieldBytes h]

/-- Settles O2: a decoded frame starts with an opcode byte, and its fields are those of the bytes after it. -/
theorem encodeOfDecodedFrame : Obligations.EncodeOfDecodedFrame := by
  intro i bytes rest h
  cases bytes with
  | nil => cases h
  | cons b bs =>
    cases hc : Command.ofOpcode b with
    | none => simp [decode_of_ofOpcode_eq_none hc] at h
    | some c =>
      obtain rfl := Command.ofOpcode_eq_some.mp hc
      rw [decode_opcode_cons] at h
      obtain ⟨rfl, hwf, hbs⟩ := decodeFields_eq_ok h
      exact ⟨hwf, by rw [encode_eq_opcode_cons, List.cons_append, hbs]⟩

theorem decode_eq_reserved_iff {b : Byte} {bs : List Byte} :
    decode (b :: bs) = .error (.reservedOpcode b) ↔ Command.ofOpcode b = none := by
  refine ⟨fun h => ?_, fun h => decode_of_ofOpcode_eq_none h bs⟩
  cases hc : Command.ofOpcode b with
  | none => rfl
  | some c =>
    obtain rfl := Command.ofOpcode_eq_some.mp hc
    exact absurd ((decode_opcode_cons c bs).symm.trans h) (decodeFields_ne_reserved c bs _)

/-- Settles O3: the nine bytes are the opcodes of the nine commands. -/
theorem reservedOpcodesRefused : Obligations.ReservedOpcodesRefused := by
  intro b rest
  have hbytes : [0x21, 0x68, 0x67, 0x63, 0x65, 0x73, 0x72, 0x77, 0x74] =
    Command.all.map fun c => c.opcode.toNat := rfl
  rw [decode_eq_reserved_iff, Command.ofOpcode_eq_none, hbytes]
  simp [Command.mem_all, BitVec.toNat_inj]

/-! ## The byte order of the fields and the bit view (R82, R86, R87) -/

/-- The six header bytes as numbers, most significant first (R86, R87). -/
theorem headerBytes_toNat (a : Word) (l : Len) :
    (addressBytes a ++ lengthBytes l).map BitVec.toNat =
      [a.toNat / 2 ^ 24, a.toNat / 2 ^ 16 % 256, a.toNat / 2 ^ 8 % 256, a.toNat % 256,
        l.toNat / 2 ^ 8, l.toNat % 256] := by
  have ha : a.toNat / 2 ^ 24 < 256 := Nat.div_lt_of_lt_mul a.isLt
  have hl : l.toNat / 2 ^ 8 < 256 := Nat.div_lt_of_lt_mul l.isLt
  simpa [addressBytes, lengthBytes, byteOf_toNat] using ⟨ha, hl⟩

/-- A header followed by anything has the three fields of R82 in its bit view. -/
theorem headerView_eq_fields (op : Byte) (a : Word) (l : Len) (rest : List Byte) :
    ∃ h : BitVec 56, headerView (op :: (addressBytes a ++ lengthBytes l ++ rest)) = some h ∧
      h.extractLsb' 48 8 = op ∧ h.extractLsb' 16 32 = a ∧ h.extractLsb' 0 16 = l ∧
      viewOpcode h = op ∧ viewAddress h = a ∧ viewLength h = l ∧
      h.toNat = op.toNat * 2 ^ 48 + a.toNat * 2 ^ 16 + l.toNat :=
  ⟨op ++ a ++ l, headerView_fields op a l rest, viewOpcode_append op a l, viewAddress_append op a l,
    viewLength_append op a l, viewOpcode_append op a l, viewAddress_append op a l, viewLength_append op a l,
    view_toNat op a l⟩

/-- Decoding the word of a well-formed frame in the bit view of R82 gives the instruction back. -/
theorem decodeEncodingWord_encodingWord {i : Instr} (h : i.wellFormed = true) :
    decodeEncodingWord (8 * (encode i).length) (encodingWord (encode i)) = some i := by
  have hdecode : decode (encode i) = .ok (i, []) := by simpa using decodeOfEncodedFrame i [] h
  rw [decodeEncodingWord, encodingBytes_encodingWord, hdecode]

/-- Settles O5, from the header bytes and the bit view of a header. -/
theorem fieldBytesMostSignificantFirst : Obligations.FieldBytesMostSignificantFirst := by
  refine ⟨fun a l d => ⟨addressBytes a ++ lengthBytes l, headerBytes_toNat a l, rfl, rfl, rfl⟩, rfl, rfl, rfl,
    fun _ _ _ _ _ _ _ _ => rfl, fun i op a l d hi => ?_, fun c _ => ?_, fun _ => decodeEncodingWord_encodingWord⟩
  · simp only [List.mem_cons, Prod.mk.injEq, List.not_mem_nil, or_false] at hi
    rcases hi with ⟨rfl, rfl⟩ | ⟨rfl, rfl⟩ | ⟨rfl, rfl⟩
    · exact headerView_eq_fields _ a l []
    · exact headerView_eq_fields _ a l []
    · exact headerView_eq_fields _ a l d
  · simpa [encodingWord] using encodingBytes_encodingWord [c.opcode]

/-- Settles O4: the decoder runs on every word and byte sequence. -/
theorem specWordsDecode : Obligations.SpecWordsDecode :=
  ⟨rfl, rfl, rfl, rfl, rfl, rfl, rfl, rfl, rfl, rfl, rfl, rfl, rfl, rfl, rfl, rfl, rfl⟩

end Sys2Proof

namespace Sys2Proof.Machine

/-! ## The length bytes a response may have (R89, R94, R132) -/

/-- Settles O30, command by command. -/
theorem acceptedLengthsAndPayloadCounts : Obligations.AcceptedLengthsAndPayloadCounts := by
  intro s k _
  refine ⟨?_, ?_, ?_, ?_, rfl, fun c hc => ?_⟩
  · simp [State.lenOk]
  · simp [State.lenOk, ← BitVec.toNat_inj]
  · simp [State.lenOk, ← BitVec.toNat_inj]
  · simp [State.lenOk, ← BitVec.toNat_inj]
  · rw [State.pcount, if_neg hc, BitVec.toNat_setWidth_of_le (by decide)]

/-! ## Acceptance (R95, R96, R154, R155) -/

/-- An instruction's cycle that accepts its command runs the common effects and the command's first move, and moves
only the command (R154). -/
theorem exec_accept {s : State} (i : Instr) (hf : s.cmdFire = true) (hl : s.legal = true) :
    exec i s = .next ((beginOf i (s.acceptEffects i.command.select (offeredCount i))).tick
      [.cmd s.now.cmdOp s.now.cmdCount]) := by
  obtain ⟨-, hrst, hbusy⟩ := State.cmdFire_eq_true.mp hf
  have hwait := State.busy_eq_false.mp hbusy
  have hruns : s.Runs i.command :=
    ⟨hrst, State.stop_eq_none.mpr (by rcases hwait with hk | hk <;> simp [hk, hl, onPath])⟩
  have hcycle : s.commandCycle i.command (offeredCount i) (beginOf i) (checkOf i.command) =
      beginOf i (s.acceptEffects i.command.select (offeredCount i)) := by
    rcases hwait with hk | hk <;> simp [State.commandCycle, hk, State.acceptCycle, hf]
  rw [exec_of_runs hruns, hcycle, State.transfers_waiting hwait, if_pos hf]

/-- Settles O17: the six first moves are one, and the common effects load no count. -/
theorem statusCommandAccepted : Obligations.StatusCommandAccepted := by
  intro i sel s hi hf hl
  simp only [List.mem_cons, Prod.mk.injEq, List.not_mem_nil, or_false] at hi
  rw [exec_accept i hf hl]
  rcases hi with ⟨rfl, rfl⟩ | ⟨rfl, rfl⟩ | ⟨rfl, rfl⟩ | ⟨rfl, rfl⟩ | ⟨rfl, rfl⟩ | ⟨rfl, rfl⟩ <;> rfl

/-- A step that accepts a reserved select runs the common effects, raises BAD_OP and moves only the command
(R96, R278). -/
theorem step_accept_reserved {s : State} (hf : s.cmdFire = true) (hl : s.legal = true)
    (hsel : Command.ofSelect s.now.cmdOp = none) :
    step s = .next (((s.acceptEffects s.now.cmdOp s.now.cmdCount).raise .badOp).tick
      [.cmd s.now.cmdOp s.now.cmdCount]) := by
  obtain ⟨-, hrst, hbusy⟩ := State.cmdFire_eq_true.mp hf
  have hfetch : s.fetch = none := by simp [State.fetch, hbusy, hf, hsel]
  rw [step, hfetch]
  simp [State.idleCycle, hrst, hl, hbusy, hf]

/-- A reserved select takes no count (R155). -/
theorem acceptEffects_remaining_of_reserved (s : State) {sel : BitVec 4} (hsel : Command.ofSelect sel = none)
    (count : Len) : (s.acceptEffects sel count).remaining = 0#16 := by
  refine if_neg ?_
  rintro (rfl | rfl) <;> simp at hsel

/-- Settles O15: the common effects of a reserved select, with BAD_OP raised. -/
theorem reservedSelectEndsWithBadOp : Obligations.ReservedSelectEndsWithBadOp := by
  intro s hf hl hop
  have hsel := Command.ofSelect_eq_none.mpr hop
  have hrem := acceptEffects_remaining_of_reserved s hsel s.now.cmdCount
  rw [step_accept_reserved hf hl hsel]
  refine ⟨?_, ?_⟩
  · rw [← hrem]
    rfl
  · rintro t ⟨⟩
    exact ⟨rfl, rfl, rfl, fun _ => rfl⟩

/-! ## The digest of a verify-crc response (R88, R136) -/

/-- An RX_PAY cycle whose byte its destination takes (R133, R134). -/
theorem step_of_payload_taken {s : State} {c : Command} (hk : s.ctrl = .rxPay) (hc : s.command = some c)
    (hl : s.legal = true) (hrst : s.now.rst = false) (herr : s.sampledErr c = none)
    (hvalid : s.now.rxValid = true) (hready : s.payloadReady c = true) :
    step s = .next ((s.takePayload c).tick (s.transfers c)) := by
  have hbusy : s.busy = true := State.busy_eq_true.mpr (by simp [hk])
  have hruns : s.Runs c := ⟨hrst, State.stop_eq_none.mpr (by simp [hk, hl, onPath])⟩
  have hfire : s.rxFire c = true := by simp [State.rxFire_rxPay hk hrst herr, hvalid, hready]
  rw [step_busy hbusy hc, State.clocked_of_runs hruns]
  simp [State.commandCycle, hk, State.onTransfer, herr, hfire]

/-- A payload byte that is not the last keeps every register in its legal range (R41, R134). -/
theorem State.takePayload_legal {s : State} {c : Command} (hl : s.legal = true)
    (hlt : s.rxCnt.toNat + 1 < s.rspLen.toNat) : (s.takePayload c).legal = true := by
  obtain ⟨htx, hchunk, hidx, hrsp, -⟩ := State.legal_iff.mp hl
  have hcnt : (s.rxCnt + 1#9).toNat ≤ 255 := by bv_omega
  rw [State.legal_iff]
  simpa [State.takePayload_rxCnt, hlt.ne] using ⟨htx, hchunk, hidx, hrsp, hcnt⟩

/-- The digest with a byte shifted in from the right (R136). -/
def shiftInByte (d : Word) (b : Byte) : Word :=
  d.setWidth 24 ++ b

theorem State.takePayload_devCrc_verify (s : State) :
    (s.takePayload .verify).devCrc = shiftInByte s.devCrc s.now.rxData := by
  rw [State.takePayload_devCrc, if_pos rfl, shiftInByte]

theorem shiftInByte_toNat (d : Word) (b : Byte) :
    (shiftInByte d b).toNat = d.toNat % 2 ^ 24 * 256 + b.toNat := by
  rw [shiftInByte, BitVec.toNat_append, ← Nat.shiftLeft_add_eq_or_of_lt b.isLt, Nat.shiftLeft_eq,
    BitVec.toNat_setWidth]

/-- Four bytes shifted in leave nothing of what was there before (R88). -/
theorem foldl_shiftInByte_four (d : Word) (b3 b2 b1 b0 : Byte) :
    [b3, b2, b1, b0].foldl shiftInByte d = join32 b3 b2 b1 b0 := by
  apply BitVec.eq_of_toNat_eq
  have := b0.isLt
  have := b1.isLt
  have := b2.isLt
  have := b3.isLt
  simp only [List.foldl_cons, List.foldl_nil, shiftInByte_toNat, join32_toNat]
  omega

/-- A VERIFY takes an offered payload byte in any cycle without reset and transport failure (R133). -/
theorem step_of_verifyPayload_offered {s : State} (hk : s.ctrl = .rxPay) (hc : s.command = some .verify)
    (hl : s.legal = true) (hnow : s.now.rst = false ∧ s.now.chErr = false ∧ s.now.rxValid = true) :
    step s = .next ((s.takePayload .verify).tick (s.transfers .verify)) := by
  obtain ⟨hrst, herr, hvalid⟩ := hnow
  exact step_of_payload_taken hk hc hl hrst (by simp [State.sampledErr, hk, herr]) hvalid rfl

/-- The rest of a verify-crc response, offered byte by byte, is shifted into the digest, and the check follows
(R134, R136). -/
theorem run_verifyPayload {s : State} {n : Inputs} {ns rest : List Inputs} (hk : s.ctrl = .rxPay)
    (hc : s.command = some .verify) (hl : s.legal = true)
    (hlen : s.rxCnt.toNat + (ns.length + 1) = s.rspLen.toNat) (hin : s.inputs = n :: (ns ++ rest))
    (hns : ∀ m ∈ n :: ns, m.rst = false ∧ m.chErr = false ∧ m.rxValid = true) :
    ∃ t, Sys2Proof.core.run (ns.length + 1) s = .next t ∧ t.ctrl = .check ∧
      t.rspB0 = (if s.rxCnt = 0#9 then n.rxData else s.rspB0) ∧
      t.devCrc = ((n :: ns).map Inputs.rxData).foldl shiftInByte s.devCrc := by
  have hnow : s.now = n := State.now_eq hin
  have hstep := step_of_verifyPayload_offered hk hc hl (hnow ▸ hns n List.mem_cons_self)
  have hb0 := hnow ▸ s.takePayload_rspB0 .verify
  have hcrc := hnow ▸ s.takePayload_devCrc_verify
  match ns with
  | [] =>
    refine ⟨_, (run_succ_of_step hstep).trans (run_zero _), ?_, hb0, hcrc⟩
    exact (s.takePayload_ctrl .verify).trans (if_pos hlen)
  | m :: ns =>
    simp only [List.length_cons] at hlen
    obtain ⟨-, -, -, hrsp, -⟩ := State.legal_iff.mp hl
    have hmore : s.rxCnt.toNat + 1 < s.rspLen.toNat := by omega
    have hctrl : (s.takePayload .verify).ctrl = .rxPay := by
      rw [State.takePayload_ctrl, if_neg hmore.ne, hk]
    have hcnt : (s.takePayload .verify).rxCnt = s.rxCnt + 1#9 := by
      rw [State.takePayload_rxCnt, if_neg hmore.ne]
    have hpos : s.rxCnt + 1#9 ≠ 0#9 := by bv_omega
    obtain ⟨t, hrun, hcheck, htb0, htcrc⟩ :=
      run_verifyPayload (s := (s.takePayload .verify).tick (s.transfers .verify)) (ns := ns) (rest := rest) hctrl
        (by simpa [State.command] using hc) (State.takePayload_legal hl hmore)
        (by simp only [State.tick_rxCnt, State.tick_rspLen, hcnt, State.takePayload_rspLen]; bv_omega)
        (by simp [State.tick, hin]) fun k hmem => hns k (List.mem_cons_of_mem n hmem)
    refine ⟨t, (run_succ_of_step hstep).trans hrun, hcheck, ?_, ?_⟩
    · rw [htb0, State.tick_rxCnt, hcnt, if_neg hpos, State.tick_rspB0, hb0]
    · rw [htcrc, State.tick_devCrc, hcrc]
      rfl

/-- Settles O33: four bytes shifted in are the big-endian word, whatever the register held before. -/
theorem digestAssembledBigEndian : Obligations.DigestAssembledBigEndian := by
  intro s n₀ n₁ n₂ n₃ rest hk hc hl hcnt hrsp hin hns
  obtain ⟨t, hrun, hcheck, hb0, hcrc⟩ := run_verifyPayload (ns := [n₁, n₂, n₃]) hk hc hl
    (by simp [hcnt, hrsp]) hin hns
  refine ⟨t, hrun, hcheck, by rw [hb0, if_pos hcnt], ?_⟩
  rw [hcrc]
  exact (congrArg BitVec.toNat (foldl_shiftInByte_four ..)).trans (join32_toNat ..)

end Sys2Proof.Machine
end

section
/-! PROOFS of the statements of 40_frame_encoder.md: the instruction in hand (R111, R154), the byte of a TX cycle
(R112 to R115), the fields of the frame being sent (R117), and the whole frame (R110, R111, R116, R118). -/

namespace Sys2Proof.Machine

/-! ## The instruction in hand (R111, R154) -/

/-- Settles O6: a step runs what it fetches, and an offer outside reset to a CORE that is not busy is accepted. -/
theorem stepRunsInstructionInHand : Obligations.StepRunsInstructionInHand := by
  intro s
  refine ⟨fun i hf => by rw [step, hf], fun hf => by rw [step, hf], fun c => State.fetch_busy,
    fun c hb hr hv hc => ?_⟩
  have hfire := State.cmdFire_eq_true.mpr ⟨hv, hr, hb⟩
  simp [State.fetch, hb, hfire, hc]

/-! ## A TX cycle (R113 to R115) -/

/-- The state after a frame byte is sent, in the three TX states. -/
def State.afterTxByte (s : State) (c : Command) : State :=
  match s.ctrl with
  | .txOp => s.afterOpcode c
  | .txHdr => s.afterHeaderByte c
  | .txData => s.afterDataByte
  | _ => s

section txCycle

variable {s : State} {c : Command} (hk : s.ctrl = .txOp ∨ s.ctrl = .txHdr ∨ s.ctrl = .txData)
include hk

theorem State.commandCycle_tx (count : Len) (begin check : State → State) :
    s.commandCycle c count begin check = s.onTransfer c (s.txFire c) (s.afterTxByte c) := by
  rcases hk with hk | hk | hk <;> simp [State.commandCycle, State.afterTxByte, hk]

theorem State.sampledErr_tx (he : s.now.chErr = false) : s.sampledErr c = none := by
  rcases hk with hk | hk | hk <;> simp [State.sampledErr, hk, he]

/-- A TX cycle in which the adapter takes the byte sends exactly that byte. -/
theorem exec_tx_taken {i : Instr} (hs : s.stop i.command = none) (hr : s.now.rst = false)
    (he : s.now.chErr = false) (hready : s.now.txReady = true) :
    exec i s = .next ((s.afterTxByte i.command).tick [.tx (s.txByte i.command)]) := by
  rw [exec_of_runs ⟨hr, hs⟩, State.commandCycle_tx hk, State.transfers_tx hk hr he, State.txFire_tx hk hr he]
  simp [State.onTransfer, State.sampledErr_tx hk he, hready]

end txCycle

/-- Settles O25: TX_OP is on every command's path, and its byte is the opcode. -/
theorem opcodeByteSent : Obligations.OpcodeByteSent := by
  intro i s hr hl hk he hready
  have hs : s.stop i.command = none := State.stop_eq_none.mpr (by simp [hk, hl, onPath])
  rw [exec_tx_taken (.inl hk) hs hr he hready]
  simp [State.afterTxByte, State.afterOpcode, State.txByte, hk, hr]

/-! ## The header (R112, R114) -/

theorem State.lenField_toNat_eq (s : State) (c : Command) :
    (s.lenField c).toNat = if c = .verify then s.remaining.toNat else s.chunkLen.toNat := by
  split
  next hc => rw [State.lenField, if_pos hc]
  next hc => exact State.lenField_toNat hc

/-- The bytes TX_HDR sends are the address and length fields, byte by byte. -/
theorem State.headerBytes_getElem? {s : State} (c : Command) (hl : s.legal = true) :
    (addressBytes s.addr ++ lengthBytes (s.lenField c))[s.txIdx.toNat]? = some (s.headerByte c) := by
  have hle : s.txIdx.toNat ≤ 5 := (State.legal_iff.mp hl).1
  unfold State.headerByte
  generalize s.txIdx.toNat = k at hle
  interval_cases k <;> rfl

/-- Settles O26: the header byte at `tx_idx`, as a number. -/
theorem headerByteSent : Obligations.HeaderByteSent := by
  intro i s hi hr hl hk he hready
  have hpath : onPath i.command .txHdr = true := by
    simp only [List.mem_cons, List.not_mem_nil, or_false] at hi
    rcases hi with hi | hi | hi <;> rw [hi] <;> rfl
  have hs : s.stop i.command = none := State.stop_eq_none.mpr (by simp [hk, hl, hpath])
  refine ⟨s.headerByte i.command, ?_, ?_⟩
  · rw [← State.lenField_toNat_eq, ← headerBytes_toNat, List.getElem?_map, State.headerBytes_getElem? _ hl]
    rfl
  · rw [exec_tx_taken (.inr (.inl hk)) hs hr he hready]
    simp [State.afterTxByte, State.afterHeaderByte, State.txByte, hk, hr]

/-! ## The data (R115) -/

/-- Settles O27: TX_DATA is on WRITE's path, and below index 256 nothing stops it. -/
theorem dataByteSent : Obligations.DataByteSent := by
  intro a n d s hr hl hk hidx he hready
  have hne : s.bufIdx ≠ 256#9 := by bv_omega
  have hs : s.stop .write = none := State.stop_eq_none.mpr (by simp [hk, hl, hne, onPath])
  rw [exec_tx_taken (i := .write a n d) (.inr (.inr hk)) hs hr he hready]
  simp [State.afterTxByte, State.afterDataByte, State.txByte, hk, hr]

/-! ## The fields of the frame in hand (R117) -/

/-- The registers the frame in hand is made of, and the select that names its command. -/
def State.frameFields (s : State) : BitVec 4 × Word × Len × Count × List Host.Cell :=
  (s.op, s.addr, s.remaining, s.chunkLen, s.buf)

theorem State.frameFields_eq_iff {s t : State} :
    t.frameFields = s.frameFields ↔
      t.op = s.op ∧ t.addr = s.addr ∧ t.remaining = s.remaining ∧ t.chunkLen = s.chunkLen ∧ t.buf = s.buf := by
  simp [State.frameFields]

theorem State.frame_eq_of_frameFields {s t : State} (h : t.frameFields = s.frameFields) (c : Command) :
    t.frame c = s.frame c := by
  obtain ⟨-, haddr, hrem, hchunk, hbuf⟩ := State.frameFields_eq_iff.mp h
  simp only [State.frame, State.lenField, haddr, hrem, hchunk, hbuf]

/-- No TX rule writes a field of the frame. -/
theorem State.afterTxByte_frameFields (s : State) (c : Command) :
    (s.afterTxByte c).frameFields = s.frameFields := by
  unfold State.afterTxByte
  split <;> simp [State.frameFields]

@[simp] theorem State.afterTxByte_frame (s : State) (c : Command) : (s.afterTxByte c).frame c = s.frame c :=
  State.frame_eq_of_frameFields (s.afterTxByte_frameFields c) c

@[simp] theorem State.tick_frame (s : State) (m : List Transfer) (c : Command) : (s.tick m).frame c = s.frame c := rfl

@[simp] theorem State.afterTxByte_inputs (s : State) (c : Command) : (s.afterTxByte c).inputs = s.inputs := by
  unfold State.afterTxByte
  split <;> simp

@[simp] theorem State.afterTxByte_trace (s : State) (c : Command) : (s.afterTxByte c).trace = s.trace := by
  unfold State.afterTxByte
  split <;> simp

/-- Settles O29: a TX cycle raises an error, sends a byte or holds, and none of these writes a field. -/
theorem frameFieldsStandStill : Obligations.FrameFieldsStandStill := by
  intro i s t htx hr ht
  have hk : s.ctrl = .txOp ∨ s.ctrl = .txHdr ∨ s.ctrl = .txData := by simpa using htx
  have hsame : t.frameFields = s.frameFields := by
    rcases exec_next ht with ⟨hreset, -⟩ | ⟨-, rfl⟩
    · simp [hr] at hreset
    · rw [State.commandCycle_tx hk]
      exact State.onTransfer_keeps State.frameFields (fun _ => rfl) (s.afterTxByte_frameFields _)
  obtain ⟨hop, haddr, hrem, hchunk, hbuf⟩ := State.frameFields_eq_iff.mp hsame
  exact ⟨hop, haddr, hrem, hchunk, hbuf, State.frame_eq_of_frameFields hsame⟩

/-! ## The bytes of the frame in hand (R110, R111) -/

theorem Memory.getElem?_slice (m : List Host.Cell) {n k : Nat} (hk : k < n) (i : Nat) :
    (Memory.slice m i n)[k]? = some (Memory.read m (i + k)) := by
  induction n generalizing i k with
  | zero => omega
  | succ n ih =>
    cases k with
    | zero => rfl
    | succ k => simp [Memory.slice, ih (Nat.lt_of_succ_lt_succ hk), Nat.add_comm 1, Nat.add_assoc]

theorem State.encode_frame_f0 (s : State) {c : Command} (hc : c.format = .f0) :
    encode (s.frame c) = [c.opcode] := by
  cases c with
  | fwver | halt | start | cdone | erase | serial => rfl
  | read | write | verify => cases hc

theorem State.encode_frame_header (s : State) {c : Command} (hc : c.format ≠ .f0) :
    encode (s.frame c) = c.opcode :: ((addressBytes s.addr ++ lengthBytes (s.lenField c)) ++
      if c = .write then Memory.slice s.buf 0 s.chunkLen.toNat else []) := by
  cases c with
  | fwver | halt | start | cdone | erase | serial => exact absurd rfl hc
  | read | write | verify => rfl

theorem State.length_encode_frame (s : State) {c : Command} (hc : c.format ≠ .f0) :
    (encode (s.frame c)).length = 7 + if c = .write then s.chunkLen.toNat else 0 := by
  simp only [s.encode_frame_header hc, addressBytes, lengthBytes, List.length_cons, List.length_append,
    apply_ite List.length, Memory.length_slice, List.length_nil]
  omega

/-! ## Sending the frame (R116, R118) -/

/-- How many bytes of its frame a TX state has sent. -/
def State.txPos (s : State) : Nat :=
  match s.ctrl with
  | .txHdr => 1 + s.txIdx.toNat
  | .txData => 7 + s.bufIdx.toNat
  | _ => 0

@[simp] theorem State.tick_txPos (s : State) (m : List Transfer) : (s.tick m).txPos = s.txPos := rfl

/-- Command `c` is sending its frame: a TX state on its path, with a byte left to send. -/
structure State.Sending (s : State) (c : Command) : Prop where
  command : s.command = some c
  legal : s.legal = true
  tx : s.ctrl = .txOp ∨ s.ctrl = .txHdr ∨ s.ctrl = .txData
  path : onPath c s.ctrl = true
  chunk : c = .write → 1 ≤ s.chunkLen.toNat
  data : s.ctrl = .txData → s.bufIdx.toNat < s.chunkLen.toNat

/-- The byte after those already sent is the one on `tx_data`. -/
theorem State.Sending.encode_getElem? {s : State} {c : Command} (h : s.Sending c) (hr : s.now.rst = false) :
    (encode (s.frame c))[s.txPos]? = some (s.txByte c) := by
  rcases h.tx with hk | hk | hk
  · simp [encode_eq_opcode_cons, s.frame_command, State.txPos, State.txByte, hk, hr]
  · have hf : c.format ≠ .f0 := by simpa [onPath, hk] using h.path
    have hbyte := State.headerBytes_getElem? c h.legal
    have hlt := (List.getElem?_eq_some_iff.mp hbyte).1
    rw [s.encode_frame_header hf, State.txPos, hk, Nat.add_comm, List.getElem?_cons_succ,
      List.getElem?_append_left hlt, hbyte]
    simp [State.txByte, hk, hr]
  · obtain rfl : c = .write := by simpa [onPath, hk] using h.path
    have hbyte := Memory.getElem?_slice s.buf (h.data hk) 0
    simpa [s.encode_frame_header (c := .write) (by decide), addressBytes, lengthBytes, State.txPos, State.txByte,
      hk, hr, Nat.add_comm 7] using hbyte

/-- What is left of the frame starts with the byte on `tx_data`. -/
theorem State.Sending.drop_txPos {s : State} {c : Command} (h : s.Sending c) (hr : s.now.rst = false) :
    (encode (s.frame c)).drop s.txPos = s.txByte c :: (encode (s.frame c)).drop (s.txPos + 1) := by
  obtain ⟨hlt, hbyte⟩ := List.getElem?_eq_some_iff.mp (h.encode_getElem? hr)
  rw [List.drop_eq_getElem_cons hlt, hbyte]

theorem State.Sending.txPos_lt {s : State} {c : Command} (h : s.Sending c) :
    s.txPos < (encode (s.frame c)).length := by
  obtain ⟨hidx, -⟩ := State.legal_iff.mp h.legal
  rcases h.tx with hk | hk | hk
  · simp [encode_eq_opcode_cons, State.txPos, hk]
  · have hf : c.format ≠ .f0 := by simpa [onPath, hk] using h.path
    simp only [s.length_encode_frame hf, State.txPos, hk]
    omega
  · obtain rfl : c = .write := by simpa [onPath, hk] using h.path
    rw [s.length_encode_frame (by decide), State.txPos, hk]
    exact Nat.add_lt_add_left (h.data hk) 7

/-- A sending CORE does not stop. -/
theorem State.Sending.stop_eq_none {s : State} {c : Command} (h : s.Sending c) : s.stop c = none := by
  refine State.stop_eq_none.mpr ⟨h.legal, h.path, fun ⟨hk, hidx⟩ => ?_, fun ⟨hk, _⟩ => ?_⟩
  · have hlt := h.data hk
    obtain ⟨-, hle, -⟩ := State.legal_iff.mp h.legal
    rw [hidx] at hlt
    exact absurd (hlt.trans_le hle) (by decide)
  · simpa [hk] using h.tx

theorem State.Sending.step_eq {s : State} {c : Command} (h : s.Sending c) (hr : s.now.rst = false)
    (he : s.now.chErr = false) (hready : s.now.txReady = true) :
    step s = .next ((s.afterTxByte c).tick [.tx (s.txByte c)]) := by
  have hbusy : s.busy = true := State.busy_eq_true.mpr (by rcases h.tx with hk | hk | hk <;> simp [hk])
  have hcycle := exec_tx_taken (i := s.frame c) h.tx (by rw [s.frame_command, h.stop_eq_none]) hr he hready
  rw [step, State.fetch_busy hbusy h.command]
  simpa only [s.frame_command] using hcycle

/-- The frame goes on where the fields stand still and the new TX state is a legal one of the command. -/
theorem State.Sending.within {s t : State} {c : Command} (h : s.Sending c) (hl : t.legal = true)
    (htx : t.ctrl = .txOp ∨ t.ctrl = .txHdr ∨ t.ctrl = .txData) (hpath : onPath c t.ctrl = true)
    (hdata : t.ctrl = .txData → t.bufIdx.toNat < s.chunkLen.toNat)
    (hsame : t.frameFields = s.frameFields := by rfl) : t.Sending c := by
  obtain ⟨hop, -, -, hchunk, -⟩ := State.frameFields_eq_iff.mp hsame
  exact
    { command := by rw [State.command, hop]; exact h.command
      legal := hl
      tx := htx
      path := hpath
      chunk := hchunk ▸ h.chunk
      data := hchunk ▸ hdata }

/-- From `s` to `t` one byte of the frame is sent: either the next byte is due, or that was the last one. -/
def State.Sent (s : State) (c : Command) (t : State) : Prop :=
  (t.Sending c ∧ t.txPos = s.txPos + 1) ∨
    (t.ctrl = (if c = .write then .settle else .rxLen) ∧ (encode (s.frame c)).length = s.txPos + 1)

theorem State.Sending.afterOpcode {s : State} {c : Command} (h : s.Sending c) (hk : s.ctrl = .txOp) :
    s.Sent c (s.afterOpcode c) := by
  obtain ⟨-, hrest⟩ := State.legal_iff.mp h.legal
  unfold State.afterOpcode
  split
  next hf =>
    have hw : c ≠ .write := by rintro rfl; cases hf
    exact .inr ⟨(if_neg hw).symm, by simp [s.encode_frame_f0 hf, State.txPos, hk]⟩
  next hf =>
    exact .inl ⟨h.within (State.legal_iff.mpr ⟨Nat.zero_le _, hrest⟩) (.inr (.inl rfl))
      (by simpa [onPath] using hf) nofun, by simp [State.txPos, hk]⟩

theorem State.Sending.afterHeaderByte {s : State} {c : Command} (h : s.Sending c) (hk : s.ctrl = .txHdr) :
    s.Sent c (s.afterHeaderByte c) := by
  obtain ⟨htx, hchunk, hidx, hrsp, hrx⟩ := State.legal_iff.mp h.legal
  unfold State.afterHeaderByte
  split
  next hlast =>
    split
    next hw =>
      exact .inl ⟨h.within (State.legal_iff.mpr ⟨htx, hchunk, Nat.zero_le _, hrsp, hrx⟩) (.inr (.inr rfl))
        (by simp [onPath, hw]) (fun _ => h.chunk hw), by simp [State.txPos, hk, hlast]⟩
    next hw =>
      have hf : c.format ≠ .f0 := by simpa [onPath, hk] using h.path
      exact .inr ⟨(if_neg hw).symm, by simp [s.length_encode_frame hf, hw, State.txPos, hk, hlast]⟩
  next hmore =>
    have hnext : (s.txIdx + 1#3).toNat = s.txIdx.toNat + 1 := by bv_omega
    exact .inl ⟨h.within (State.legal_iff.mpr ⟨by bv_omega, hchunk, hidx, hrsp, hrx⟩) h.tx h.path h.data,
      by simp only [State.txPos, hk, hnext, Nat.add_assoc]⟩

theorem State.Sending.afterDataByte {s : State} {c : Command} (h : s.Sending c) (hk : s.ctrl = .txData) :
    s.Sent c s.afterDataByte := by
  obtain rfl : c = .write := by simpa [onPath, hk] using h.path
  have hlt := h.data hk
  obtain ⟨htx, hchunk, -, hrsp, hrx⟩ := State.legal_iff.mp h.legal
  unfold State.afterDataByte
  split
  next hlast =>
    exact .inr ⟨rfl, by
      simp [s.length_encode_frame (c := .write) (by decide), State.txPos, hk, ← hlast, Nat.add_assoc]⟩
  next hmore =>
    have hnext : (s.bufIdx + 1#9).toNat = s.bufIdx.toNat + 1 := by bv_omega
    exact .inl ⟨h.within (State.legal_iff.mpr ⟨htx, hchunk, by bv_omega, hrsp, hrx⟩) h.tx h.path
      (fun _ => by bv_omega), by simp only [State.txPos, hk, hnext, Nat.add_assoc]⟩

theorem State.Sending.afterTxByte {s : State} {c : Command} (h : s.Sending c) : s.Sent c (s.afterTxByte c) := by
  unfold State.afterTxByte
  rcases h.tx with hk | hk | hk <;> rw [hk]
  · exact h.afterOpcode hk
  · exact h.afterHeaderByte hk
  · exact h.afterDataByte hk

theorem State.Sending.tick {s : State} {c : Command} (h : s.Sending c) (m : List Transfer) : (s.tick m).Sending c :=
  ⟨h.command, h.legal, h.tx, h.path, h.chunk, h.data⟩

/-- With a ready adapter a sending CORE sends the rest of its frame and nothing else. -/
theorem State.Sending.run_rest {s : State} {c : Command} {script rest : List Inputs} (h : s.Sending c)
    (hin : s.inputs = script ++ rest) (hlen : s.txPos + script.length = (encode (s.frame c)).length)
    (hready : ∀ n ∈ script, n.rst = false ∧ n.chErr = false ∧ n.txReady = true) :
    ∃ t, Sys2Proof.core.run script.length s = .next t ∧
      t.trace = s.trace ++ ((encode (s.frame c)).drop s.txPos).map Transfer.tx ∧
      t.ctrl = (if c = .write then .settle else .rxLen) ∧ t.inputs = rest := by
  induction script generalizing s with
  | nil => exact absurd hlen h.txPos_lt.ne
  | cons n script ih =>
    have hnow : s.now = n := State.now_eq hin
    obtain ⟨hr, he, htx⟩ := hnow ▸ hready n List.mem_cons_self
    have hrun := run_succ_of_step (k := script.length) (h.step_eq hr he htx)
    have hin' : ((s.afterTxByte c).tick [.tx (s.txByte c)]).inputs = script ++ rest := by simp [hin]
    rw [List.length_cons] at hlen
    rcases h.afterTxByte with ⟨hsending, hpos⟩ | ⟨hctrl, hlast⟩
    · obtain ⟨t, hrun', htrace, hctrl, hrest⟩ := ih (hsending.tick _) hin'
        (by simp only [State.tick_txPos, State.tick_frame, State.afterTxByte_frame, hpos]; omega)
        fun m hm => hready m (List.mem_cons_of_mem n hm)
      refine ⟨t, hrun.trans hrun', ?_, hctrl, hrest⟩
      simp [htrace, hpos, h.drop_txPos hr]
    · obtain rfl : script = [] := List.length_eq_zero_iff.mp (by omega)
      refine ⟨_, hrun.trans (run_zero _), ?_, hctrl, hin'⟩
      simp [h.drop_txPos hr, List.drop_eq_nil_of_le hlast.le]

/-- Settles O28: in TX_OP nothing of the frame is sent yet. -/
theorem frameSentIsItsEncoding : Obligations.FrameSentIsItsEncoding := by
  intro s c script rest hk hc hl hchunk hin hlen hready
  have hsending : s.Sending c := ⟨hc, hl, .inl hk, by rw [hk]; rfl, hchunk, by simp [hk]⟩
  have hpos : s.txPos = 0 := by rw [State.txPos, hk]
  simpa [hpos] using hsending.run_rest hin (by rw [hpos, Nat.zero_add, hlen]) hready

end Sys2Proof.Machine
end

section
/-! PROOFS of the statements of 41_response_parser.md: the length byte (R131), a payload byte (R133, R134, R136), and
the opaque responses of FWVER and SERIAL (R139, R221, R226). -/

namespace Sys2Proof.Machine

/-! ## The length byte (R131) -/

/-- An RX_LEN cycle takes the byte offered to it. -/
theorem exec_length_taken {i : Instr} {s : State} (hr : s.now.rst = false) (hl : s.legal = true)
    (hk : s.ctrl = .rxLen) (he : s.now.chErr = false) (hvalid : s.now.rxValid = true) :
    exec i s = .next ((s.takeLength i.command).tick [.rx s.now.rxData]) := by
  have hruns : s.Runs i.command := ⟨hr, State.stop_eq_none.mpr (by simp [hk, hl, onPath])⟩
  rw [exec_of_runs hruns, State.transfers_rxLen hk hr he, if_pos hvalid]
  simp [State.commandCycle, hk, State.onTransfer, State.sampledErr, he, State.rxFire_rxLen hk hr he, hvalid]

/-- Settles O31: the two branches are those of the length test. -/
theorem lengthByteTaken : Obligations.LengthByteTaken := by
  intro i s hr hl hk he hvalid
  rw [exec_length_taken hr hl hk he hvalid, State.takeLength]
  simp only [← BitVec.toNat_inj, BitVec.toNat_ofNat, Nat.zero_mod]
  rfl

/-! ## A payload byte (R133, R134, R136) -/

/-- The inputs of an RX_PAY cycle in which the command's destination takes the byte offered (R133). -/
structure MovesPayload (n : Inputs) (c : Command) : Prop where
  noReset : n.rst = false
  noError : n.chErr = false
  valid : n.rxValid = true
  sink : c = .read → n.snkErr = false ∧ n.snkReady = true
  result : c ∈ [Command.fwver, .serial] → n.resReady = true

/-- The transfers of a payload byte: it is received and, where it is routed, passed on (R133; log entry 5). -/
def payloadTransfers (c : Command) (b : Byte) : List Transfer :=
  .rx b :: (if c = .read then [.snk b] else if c ∈ [Command.fwver, .serial] then [.res b] else [])

section payloadByte

variable {s : State} {c : Command} (hk : s.ctrl = .rxPay)

include hk in
theorem State.sampledErr_rxPay (h : MovesPayload s.now c) : s.sampledErr c = none := by
  have hsink : ¬(c = .read ∧ s.now.snkErr = true) := fun ⟨hc, he⟩ => by simp [(h.sink hc).1] at he
  simp [State.sampledErr, hk, h.noError, hsink]

theorem State.payloadReady_eq_true (h : MovesPayload s.now c) : s.payloadReady c = true := by
  unfold State.payloadReady
  split
  next hc => exact (h.sink (by simpa [payloadToSink] using hc)).2
  next =>
    split
    next hc => exact h.result (by simpa [payloadToResult] using hc)
    next => rfl

include hk in
/-- An RX_PAY cycle takes and routes the byte whose destination takes it. -/
theorem exec_payload_taken {i : Instr} (hl : s.legal = true) (h : MovesPayload s.now i.command) :
    exec i s = .next ((s.takePayload i.command).tick (payloadTransfers i.command s.now.rxData)) := by
  have herr := State.sampledErr_rxPay hk h
  have htaken : (s.now.rxValid && s.payloadReady i.command) = true := by simp [h.valid, State.payloadReady_eq_true h]
  have hruns : s.Runs i.command := ⟨h.noReset, State.stop_eq_none.mpr (by simp [hk, hl, onPath])⟩
  rw [exec_of_runs hruns, State.transfers_rxPay hk h.noReset herr, if_pos htaken]
  simp [State.commandCycle, hk, State.onTransfer, herr, State.rxFire_rxPay hk h.noReset herr, htaken,
    payloadTransfers]

end payloadByte

/-- What RX_PAY writes when it takes a payload byte, register by register (R134, R136). -/
theorem State.takePayload_eq {s : State} (hk : s.ctrl = .rxPay) (c : Command) :
    s.takePayload c =
      { s with
        rspB0 := if s.rxCnt = 0#9 then s.now.rxData else s.rspB0
        devCrc := (s.takePayload c).devCrc
        rxCnt := if s.rxCnt.toNat + 1 = s.rspLen.toNat then s.rxCnt else s.rxCnt + 1#9
        ctrl := if s.rxCnt.toNat + 1 = s.rspLen.toNat then .check else .rxPay } := by
  by_cases hlast : s.rxCnt.toNat + 1 = s.rspLen.toNat
  · simp [State.takePayload, State.capture, hlast]
  · simp [State.takePayload, State.capture, hlast, hk]

theorem State.takePayload_devCrc_toNat (s : State) (c : Command) :
    (s.takePayload c).devCrc.toNat =
      if c = .verify then s.devCrc.toNat % 2 ^ 24 * 256 + s.now.rxData.toNat else s.devCrc.toNat := by
  rw [State.takePayload_devCrc, apply_ite BitVec.toNat, ← shiftInByte, shiftInByte_toNat]

/-- Settles O32: the transfers are those of the byte's route, and the writes those of RX_PAY. -/
theorem payloadByteTaken : Obligations.PayloadByteTaken := by
  intro i s hr hl hk he hvalid hsink hres
  exact ⟨_, exec_payload_taken hk hl ⟨hr, he, hvalid, hsink, hres⟩,
    congrArg (State.tick · (payloadTransfers i.command s.now.rxData)) (State.takePayload_eq hk i.command),
    s.takePayload_devCrc_toNat i.command⟩

/-! ## A response, cycle by cycle (R131, R134, R314) -/

/-- A run goes on from where its first `j` cycles lead. -/
theorem run_add {s t : State} {j : Nat} (h : Sys2Proof.core.run j s = .next t) (k : Nat) :
    Sys2Proof.core.run (k + j) s = Sys2Proof.core.run k t := by
  induction j generalizing s with
  | zero => cases h; rfl
  | succ j ih =>
    cases hs : step s with
    | next s' => exact (run_succ_of_step hs).trans (ih ((run_succ_of_step hs).symm.trans h))
    | fault r =>
      have hfault : Sys2Proof.core.step s = .fault r := hs
      simp [Host.Core.run, hfault] at h
    | refused r =>
      have hrefused : Sys2Proof.core.step s = .refused r := hs
      simp [Host.Core.run, hrefused] at h

/-- A step of a busy CORE is what every cycle with its command in hand gives. -/
theorem step_of_exec {s t : State} {c : Command} (hb : s.busy = true) (hc : s.command = some c)
    (h : ∀ i : Instr, i.command = c → exec i s = .next t) : step s = .next t := by
  rw [step, State.fetch_busy hb hc]
  exact h _ (s.frame_command c)

/-- The CORE works on command `c` in legal registers, and no outcome is recorded yet (R54, R155). -/
structure State.Pending (s : State) (c : Command) : Prop where
  command : s.command = some c
  legal : s.legal = true
  errCode : s.errCode = .none
  cdoneActive : s.cdoneActive = false
  verifyOk : s.verifyOk = false

/-- The last `left` payload bytes of an accepted response are still to come. -/
structure State.Receiving (s : State) (c : Command) (left : Nat) : Prop extends s.Pending c where
  ctrl : s.ctrl = if left = 0 then .check else .rxPay
  count : left ≠ 0 → s.rxCnt.toNat + left = s.rspLen.toNat

theorem State.Receiving.busy {s : State} {c : Command} {left : Nat} (h : s.Receiving c left) : s.busy = true := by
  rw [State.busy_eq_true, h.ctrl]
  split <;> simp

theorem State.pcount_toNat_le {s : State} (hl : s.legal = true) (c : Command) (b : Byte) :
    (s.pcount c b).toNat ≤ 256 := by
  obtain ⟨-, hchunk, -⟩ := State.legal_iff.mp hl
  have hbyte : (b.setWidth 9).toNat ≤ 256 := by
    rw [BitVec.toNat_setWidth_of_le (by decide)]
    exact b.isLt.le
  unfold State.pcount
  split <;> assumption

/-- After an accepted length byte the whole payload is still to come (R131). -/
theorem State.Pending.takeLength {s : State} {c : Command} (h : s.Pending c)
    (hok : s.lenOk c s.now.rxData = true) (m : List Transfer) :
    ((s.takeLength c).tick m).Receiving c (s.pcount c s.now.rxData).toNat where
  command := by simpa [State.command] using h.command
  legal := by
    obtain ⟨htx, hchunk, hidx, -, -⟩ := State.legal_iff.mp h.legal
    rw [State.legal_iff]
    simpa [State.takeLength_rspLen, State.takeLength_rxCnt, hok] using
      ⟨htx, hchunk, hidx, State.pcount_toNat_le h.legal c s.now.rxData⟩
  errCode := by simpa [State.takeLength_errCode, hok] using h.errCode
  cdoneActive := by simpa using h.cdoneActive
  verifyOk := by simpa using h.verifyOk
  ctrl := by simp [State.takeLength_ctrl, hok, ← BitVec.toNat_inj]
  count := fun _ => by simp [State.takeLength_rspLen, State.takeLength_rxCnt, hok]

/-- Each payload byte leaves one fewer to come (R134). -/
theorem State.Receiving.takePayload {s : State} {c : Command} {left : Nat} (h : s.Receiving c (left + 1))
    (m : List Transfer) : ((s.takePayload c).tick m).Receiving c left := by
  have hcount := h.count (Nat.succ_ne_zero left)
  have hk : s.ctrl = .rxPay := h.ctrl
  have pending (hl : (s.takePayload c).legal = true) : ((s.takePayload c).tick m).Pending c :=
    ⟨by simpa [State.command] using h.command, hl, by simpa using h.errCode, by simpa using h.cdoneActive,
      by simpa using h.verifyOk⟩
  obtain rfl | hpos := Nat.eq_zero_or_pos left
  · have hlast : s.rxCnt.toNat + 1 = s.rspLen.toNat := hcount
    have hlegal : (s.takePayload c).legal = true := by
      simpa [State.legal, State.takePayload_rxCnt, hlast] using h.legal
    exact ⟨pending hlegal, by simp [State.takePayload_ctrl, hlast], fun hne => absurd rfl hne⟩
  · have hmore : s.rxCnt.toNat + 1 < s.rspLen.toNat := by omega
    refine ⟨pending (State.takePayload_legal h.legal hmore), ?_, fun _ => ?_⟩
    · simp [State.takePayload_ctrl, hmore.ne, hk, hpos.ne']
    · simp only [State.tick_rxCnt, State.tick_rspLen, State.takePayload_rxCnt, State.takePayload_rspLen,
        if_neg hmore.ne]
      bv_omega

/-- A payload whose every byte is offered and taken is received and passed on in order, and the check follows. -/
theorem State.Receiving.run_payload {s : State} {c : Command} {script rest : List Inputs}
    (h : s.Receiving c script.length) (hin : s.inputs = script ++ rest)
    (hmoves : ∀ n ∈ script, MovesPayload n c) :
    ∃ t : State, Sys2Proof.core.run script.length s = .next t ∧ t.Receiving c 0 ∧ t.rspLen = s.rspLen ∧
      t.inputs = rest ∧
      t.trace = s.trace ++ script.flatMap fun n => payloadTransfers c n.rxData := by
  induction script generalizing s with
  | nil => exact ⟨s, rfl, h, rfl, hin, by simp⟩
  | cons n script ih =>
    have hnow : s.now = n := State.now_eq hin
    have hstep : step s = .next ((s.takePayload c).tick (payloadTransfers c n.rxData)) := by
      refine step_of_exec h.busy h.command ?_
      rintro i rfl
      exact hnow ▸ exec_payload_taken h.ctrl h.legal (hnow ▸ hmoves n List.mem_cons_self)
    obtain ⟨t, hrun, hrecv, hlen, hrest, htrace⟩ := ih (h.takePayload (payloadTransfers c n.rxData)) (by simp [hin])
      fun m hm => hmoves m (List.mem_cons_of_mem n hm)
    exact ⟨t, (run_succ_of_step hstep).trans hrun, hrecv, by simpa using hlen, hrest, by simp [htrace]⟩

/-- RX_LEN with an accepted length byte offered (R131). -/
theorem State.Pending.step_rxLen {s : State} {c : Command} (h : s.Pending c) (hk : s.ctrl = .rxLen)
    (hr : s.now.rst = false) (he : s.now.chErr = false) (hvalid : s.now.rxValid = true)
    (hok : s.lenOk c s.now.rxData = true) :
    ∃ t, step s = .next t ∧ t.Receiving c (s.pcount c s.now.rxData).toNat ∧
      t.rspLen = s.pcount c s.now.rxData ∧ t.inputs = s.inputs.tail ∧ t.trace = s.trace ++ [.rx s.now.rxData] := by
  have hstep : step s = .next ((s.takeLength c).tick [.rx s.now.rxData]) := by
    refine step_of_exec (State.busy_eq_true.mpr (by simp [hk])) h.command ?_
    rintro i rfl
    exact exec_length_taken hr h.legal hk he hvalid
  exact ⟨_, hstep, h.takeLength hok _, by simp [State.takeLength_rspLen, hok], by simp, by simp⟩

/-- A CHECK cycle runs the command's check and moves nothing; READ's also needs what R193 says of its chunk. -/
theorem exec_check {i : Instr} {s : State} (hr : s.now.rst = false) (hl : s.legal = true) (hk : s.ctrl = .check)
    (hread : i.command ≠ .read) : exec i s = .next ((checkOf i.command s).tick []) := by
  have hruns : s.Runs i.command := ⟨hr, State.stop_eq_none.mpr (by simp [hk, hl, onPath, hread])⟩
  rw [exec_of_runs hruns, State.transfers_quiet (.inr hk)]
  simp [State.commandCycle, hk]

/-- The cycle after the last payload byte runs the check. -/
theorem State.Receiving.step_check {s : State} {c : Command} (h : s.Receiving c 0) (hr : s.now.rst = false)
    (hread : c ≠ .read) : step s = .next ((checkOf c s).tick []) := by
  refine step_of_exec h.busy h.command ?_
  rintro i rfl
  exact exec_check hr h.legal h.ctrl hread

/-! ## A status command up to its payload (R113, R131, R154, R220) -/

theorem beginOf_of_f0 {i : Instr} (hf : i.command.format = .f0) : beginOf i = State.beginStatus := by
  cases i with
  | fwver | halt | start | cdone | erase | serial => rfl
  | read | write | verify => cases hf

/-- A cycle that accepts a status command leads to TX_OP (R154, R155). -/
theorem step_statusCommand_accepted {s : State} {c : Command} (hf : c.format = .f0) (hfire : s.cmdFire = true)
    (hl : s.legal = true) (hop : s.now.cmdOp = c.select) :
    ∃ t, step s = .next t ∧ t.Pending c ∧ t.ctrl = .txOp ∧ t.inputs = s.inputs.tail ∧
      t.trace = s.trace ++ [.cmd s.now.cmdOp s.now.cmdCount] := by
  have hstep := step_accept hfire (c := c) (by rw [hop, Command.ofSelect_select])
  rw [exec_accept _ hfire hl, beginOf_of_f0 (by rwa [offered_command]), offered_command] at hstep
  exact ⟨_, hstep, ⟨Command.ofSelect_select c, rfl, rfl, rfl, rfl⟩, rfl, rfl, rfl⟩

/-- The opcode byte is the whole frame of a status command (R113, R116). -/
theorem State.Pending.step_txOp {s : State} {c : Command} (h : s.Pending c) (hf : c.format = .f0)
    (hk : s.ctrl = .txOp) (hr : s.now.rst = false) (he : s.now.chErr = false) (hready : s.now.txReady = true) :
    ∃ t, step s = .next t ∧ t.Pending c ∧ t.ctrl = .rxLen ∧ t.inputs = s.inputs.tail ∧
      t.trace = s.trace ++ [.tx c.opcode] := by
  have hstep : step s = .next (({ s with ctrl := .rxLen } : State).tick [.tx c.opcode]) := by
    refine step_of_exec (State.busy_eq_true.mpr (by simp [hk])) h.command ?_
    rintro i rfl
    have hstop : s.stop i.command = none := State.stop_eq_none.mpr (by simp [hk, h.legal, onPath])
    rw [exec_tx_taken (.inl hk) hstop hr he hready]
    simp [State.afterTxByte, State.afterOpcode, State.txByte, hk, hf, hr]
  exact ⟨_, hstep, ⟨h.command, h.legal, h.errCode, h.cdoneActive, h.verifyOk⟩, rfl, rfl, rfl⟩

/-- A status command, accepted, sent and answered with a length byte it accepts, has its payload still to come after
three cycles. -/
theorem run_statusCommand_answered {s : State} {c : Command} {n₀ n₁ n₂ : Inputs} {rest : List Inputs}
    (hf : c.format = .f0) (hb : s.busy = false) (hl : s.legal = true) (hin : s.inputs = n₀ :: n₁ :: n₂ :: rest)
    (hquiet : ∀ n ∈ [n₀, n₁, n₂], n.rst = false ∧ n.chErr = false) (hvalid : n₀.cmdValid = true)
    (hop : n₀.cmdOp = c.select) (hready : n₁.txReady = true) (hrx : n₂.rxValid = true)
    (hok : ∀ t : State, t.lenOk c n₂.rxData = true) :
    ∃ t : State, Sys2Proof.core.run 3 s = .next t ∧ t.Receiving c n₂.rxData.toNat ∧
      t.rspLen.toNat = n₂.rxData.toNat ∧ t.inputs = rest ∧
      t.trace = s.trace ++ [.cmd n₀.cmdOp n₀.cmdCount, .tx c.opcode, .rx n₂.rxData] := by
  simp only [List.forall_mem_cons] at hquiet
  obtain ⟨⟨hr₀, -⟩, ⟨hr₁, he₁⟩, ⟨hr₂, he₂⟩, -⟩ := hquiet
  have hread : c ≠ .read := by rintro rfl; cases hf
  obtain rfl : s.now = n₀ := State.now_eq hin
  obtain ⟨s₁, hstep₀, hpend₁, hk₁, hin₁, htrace₁⟩ :=
    step_statusCommand_accepted hf (State.cmdFire_eq_true.mpr ⟨hvalid, hr₀, hb⟩) hl hop
  rw [hin, List.tail_cons] at hin₁
  obtain rfl : s₁.now = n₁ := State.now_eq hin₁
  obtain ⟨s₂, hstep₁, hpend₂, hk₂, hin₂, htrace₂⟩ := hpend₁.step_txOp hf hk₁ hr₁ he₁ hready
  rw [hin₁, List.tail_cons] at hin₂
  obtain rfl : s₂.now = n₂ := State.now_eq hin₂
  obtain ⟨t, hstep₂, hrecv, hlen, hin₃, htrace₃⟩ := hpend₂.step_rxLen hk₂ hr₂ he₂ hrx (hok s₂)
  have hcount : (s₂.pcount c s₂.now.rxData).toNat = s₂.now.rxData.toNat := by
    rw [State.pcount, if_neg hread, BitVec.toNat_setWidth_of_le (by decide)]
  have hrun : Sys2Proof.core.run 3 s = .next t := by
    rw [run_succ_of_step hstep₀, run_succ_of_step hstep₁, run_succ_of_step hstep₂, run_zero]
  exact ⟨t, hrun, hcount ▸ hrecv, by rw [hlen, hcount], by rw [hin₃, hin₂, List.tail_cons],
    by simp [htrace₃, htrace₂, htrace₁]⟩

/-! ## The opaque responses (R139, R221, R226) -/

/-- FWVER and SERIAL route every payload byte to the result stream. -/
theorem payloadTransfers_opaque {c : Command} (hc : c ∈ [Command.fwver, .serial]) (b : Byte) :
    payloadTransfers c b = [.rx b, .res b] := by
  have hread : c ≠ .read := by rintro rfl; simp at hc
  rw [payloadTransfers, if_neg hread, if_pos hc]

/-- Settles O34: three cycles up to the payload, one for each of its bytes, and the check, which accepts anything. -/
theorem opaquePayloadReachesResultStream : Obligations.OpaquePayloadReachesResultStream := by
  intro s c n₀ n₁ n₂ n₃ script rest hc hb hl hin hquiet hvalid hop hready hrx hcount hscript
  simp only [List.forall_mem_cons] at hquiet
  obtain ⟨hq₀, hq₁, hq₂, ⟨hr₃, -⟩, hqs⟩ := hquiet
  obtain ⟨hf, hok, hcheck, hread⟩ :
      c.format = .f0 ∧ (∀ t : State, t.lenOk c n₂.rxData = true) ∧ checkOf c = State.finish ∧ c ≠ .read := by
    simp only [List.mem_cons, List.not_mem_nil, or_false] at hc
    rcases hc with rfl | rfl <;> exact ⟨rfl, fun _ => rfl, rfl, by decide⟩
  obtain ⟨t, hrun, hrecv, hlen, hint, htrace⟩ := run_statusCommand_answered hf hb hl hin (by simp [hq₀, hq₁, hq₂])
    hvalid hop hready hrx hok
  rw [hcount] at hrecv hlen
  obtain ⟨u, hrun', hrecv', hlen', hinu, htrace'⟩ := hrecv.run_payload hint fun n hn =>
    ⟨(hqs n hn).1, (hqs n hn).2, (hscript n hn).1, fun h => absurd h hread, fun _ => (hscript n hn).2⟩
  have hstep := hrecv'.step_check (State.now_eq hinu ▸ hr₃) hread
  rw [hcheck] at hstep
  refine ⟨u.finish.tick [], ?_, rfl, congrArg ErrKind.code hrecv'.errCode,
    (congrArg BitVec.toNat hlen').trans hlen, ?_⟩
  · rw [← Nat.add_assoc script.length 1 3, run_add hrun, Nat.add_comm, run_add hrun', run_succ_of_step hstep, run_zero]
  · simp [htrace', htrace, payloadTransfers_opaque hc]

end Sys2Proof.Machine
end

section
/-! PROOFS of the statements of 42_round_trip_controller.md: a placed word (log entry 14), waiting and acceptance (R154,
R155, R159, R161), sampled errors and waits (R152, R153, R160), the transitions (R150), and SETTLE (R156). -/

namespace Sys2Proof.Machine

/-! ## A placed word (log entries 14, 19) -/

/-- An instruction a caller can offer is fixed by its command and its count (R21, R95). -/
theorem offered_of_offerable {i : Instr} (h : i.offerable = true) : offered i.command (offeredCount i) = i := by
  cases i with
  | fwver | halt | start | cdone | erase | serial => rfl
  | read a n | verify a n =>
    obtain rfl : a = 0#32 := by simpa [Instr.offerable] using h
    rfl
  | write a n d =>
    obtain ⟨⟨rfl, rfl⟩, rfl⟩ : (a = 0#32 ∧ n = 0#16) ∧ d = [] := by simpa [Instr.offerable] using h
    rfl

/-- The very next cycle after a word is placed offers its instruction to a CORE that waits. -/
theorem State.withFetchWord_offers (s : State) {nbits w : Nat} {i : Instr} (hw : decodeTableWord nbits w = some i) :
    (s.withFetchWord nbits w).now = offerInputs i ∧ (s.withFetchWord nbits w).busy = false := by
  rw [State.withFetchWord, State.placeWord, hw]
  refine ⟨rfl, State.busy_eq_false.mpr ?_⟩
  by_cases hb : s.busy = true
  · simp [hb]
  · simpa [hb] using State.busy_eq_false.mp (Bool.eq_false_iff.mpr hb)

/-- Settles O7: the offer is accepted, and an offerable instruction is the one offered. -/
theorem placedWordRunsNext : Obligations.PlacedWordRunsNext := by
  intro s nbits w i hw hi
  obtain ⟨hnow, hb⟩ := s.withFetchWord_offers hw
  have hfire : (s.withFetchWord nbits w).cmdFire = true := State.cmdFire_eq_true.mpr (by simp [hnow, hb, offerInputs])
  have hstep := step_accept hfire (c := i.command) (by rw [hnow, offerInputs, Command.ofSelect_select])
  rwa [hnow, offerInputs, offered_of_offerable hi] at hstep

/-! ## Waiting and acceptance (R154, R155, R159, R161) -/

/-- A busy CORE accepts nothing, whatever is offered (R151). -/
theorem State.cmdReady_eq_false_of_busy {s : State} (hb : s.busy = true) : s.cmdReady = false := by
  simp [State.cmdReady, hb]

theorem State.cmdFire_eq_false_of_busy {s : State} (hb : s.busy = true) : s.cmdFire = false := by
  simp [State.cmdFire, State.cmdReady_eq_false_of_busy hb]

/-- Settles O12: a busy CORE fires no command under either offer, so its step does not depend on the offer. -/
theorem busyIgnoresOfferedCommands : Obligations.BusyIgnoresOfferedCommands := by
  intro s n rest v hs hb
  have heta : s.withInputs (n :: rest) = s := hs ▸ rfl
  have hoffer : Reoffered (n :: rest) ({ n with cmdValid := v } :: rest) :=
    ⟨n, rest, v, n.cmdOp, n.cmdCount, rfl, rfl⟩
  have hquiet (l : List Inputs) : (s.withInputs l).cmdFire = false := State.cmdFire_eq_false_of_busy hb
  exact ⟨State.cmdReady_eq_false_of_busy hb,
    (step_withInputs s hoffer (hquiet _) (hquiet _)).trans (congrArg step heta)⟩

/-- Settles O13: with no command offered there is no instruction in hand, and the idle cycle holds. -/
theorem waitingHoldsEveryRegister : Obligations.WaitingHoldsEveryRegister := by
  intro s hr hl hb hv
  have hquiet : s.cmdFire = false := by simp [State.cmdFire, hv]
  have hfetch : s.fetch = none := by simp [State.fetch, hb, hquiet]
  rw [step, hfetch]
  simp [State.idleCycle, hr, hl, hb, hquiet]

/-- The common effects of acceptance leave nothing of a CORE but the controller state, the chunk buffer and the
environment (R155). -/
theorem State.acceptEffects_eq_of_agree {s t : State} (hbuf : s.buf = t.buf) (hsettle : s.settleCycles = t.settleCycles)
    (hin : s.inputs = t.inputs) (hcycle : s.cycle = t.cycle) (htrace : s.trace = t.trace) (sel : BitVec 4)
    (count : Len) : s.acceptEffects sel count = { t.acceptEffects sel count with ctrl := s.ctrl } := by
  simp [State.acceptEffects, hbuf, hsettle, hin, hcycle, htrace]

/-- A command's first move does not read the controller state it leaves (R154). -/
theorem beginOf_with_ctrl (i : Instr) (s : State) (k : Ctrl) : beginOf i { s with ctrl := k } = beginOf i s := by
  cases i with
  | read a n =>
    simp only [beginOf, State.beginRead]
    split <;> rfl
  | fwver | halt | start | cdone | erase | serial | write | verify => rfl

/-- Settles O14: the common effects overwrite all that differs but the controller state, and what follows them, a first
move or BAD_OP, overwrites that. -/
theorem acceptanceForgetsTheLastOperation : Obligations.AcceptanceForgetsTheLastOperation := by
  intro s₁ s₂ hl₁ hl₂ _ hb₂ hbuf hsettle hin hcycle htrace hf₁
  have hnow : s₁.now = s₂.now := by rw [State.now, State.now, hin, hcycle]
  obtain ⟨hv, hr, -⟩ := State.cmdFire_eq_true.mp hf₁
  have hf₂ : s₂.cmdFire = true := State.cmdFire_eq_true.mpr ⟨hnow ▸ hv, hnow ▸ hr, hb₂⟩
  have heffects := State.acceptEffects_eq_of_agree hbuf hsettle hin hcycle htrace
  cases hsel : Command.ofSelect s₂.now.cmdOp with
  | some c =>
    rw [step_accept hf₁ (hnow ▸ hsel), step_accept hf₂ hsel, exec_accept _ hf₁ hl₁, exec_accept _ hf₂ hl₂, heffects,
      beginOf_with_ctrl, hnow]
  | none =>
    rw [step_accept_reserved hf₁ hl₁ (hnow ▸ hsel), step_accept_reserved hf₂ hl₂ hsel, heffects, hnow]
    rfl

/-- Settles O18: READ's first move finishes for a count of 0 and takes the first chunk for any other. -/
theorem readAccepted : Obligations.ReadAccepted := by
  intro a n s hf hl
  rw [exec_accept _ hf hl]
  refine ⟨?_, fun hn => ?_⟩
  · rintro rfl
    rfl
  · rw [beginOf, State.beginRead, if_neg hn]
    rfl

/-- Settles O19: the first moves of WRITE and VERIFY write the controller state alone. -/
theorem writeAndVerifyAccepted : Obligations.WriteAndVerifyAccepted := by
  intro a n d s hf hl
  exact ⟨exec_accept (.write a n d) hf hl, exec_accept (.verify a n) hf hl⟩

/-! ## Sampled errors (R152, R153, R280) -/

/-- Settles O21, controller state by controller state. -/
theorem sampledErrorsByState : Obligations.SampledErrorsByState := by
  intro s c
  unfold State.sampledErr
  cases s.ctrl with
  | idle | done | settle | check => simp
  | txOp | txHdr | txData | rxLen => cases s.now.chErr <;> simp
  | fill | crcRun => cases s.now.srcErr <;> simp
  | rxPay => cases s.now.chErr <;> simp

/-- The states that wait on the transfer of a byte or a token: all but those that wait for a command, SETTLE and CHECK
(R160). -/
def Ctrl.awaitsTransfer (k : Ctrl) : Prop :=
  k ∉ [.idle, .done, .settle, .check]

/-- Only a state that waits on a transfer samples an error (R152). -/
theorem State.awaitsTransfer_of_sampledErr {s : State} {c : Command} {e : ErrKind} (h : s.sampledErr c = some e) :
    s.ctrl.awaitsTransfer := by
  unfold State.sampledErr at h
  cases hk : s.ctrl with
  | idle | done | settle | check => simp [hk] at h
  | txOp | txHdr | txData | rxLen | rxPay | fill | crcRun => simp [Ctrl.awaitsTransfer]

theorem State.busy_of_awaitsTransfer {s : State} (hk : s.ctrl.awaitsTransfer) : s.busy = true := by
  rw [State.busy_eq_true]
  exact ⟨fun h => by simp [h, Ctrl.awaitsTransfer] at hk, fun h => by simp [h, Ctrl.awaitsTransfer] at hk⟩

/-- The state after the transfer that a waiting state waits for (R113 to R115, R131, R134, R204, R250). -/
def State.afterTransfer (s : State) (c : Command) : State :=
  match s.ctrl with
  | .txOp => s.afterOpcode c
  | .txHdr => s.afterHeaderByte c
  | .txData => s.afterDataByte
  | .rxLen => s.takeLength c
  | .rxPay => s.takePayload c
  | .fill => s.takeFill
  | .crcRun => s.takeCrc
  | _ => s

/-- A cycle that waits on a transfer raises a sampled error, acts on the transfer or holds (R153, R160). -/
theorem State.commandCycle_awaiting {s : State} (c : Command) (hk : s.ctrl.awaitsTransfer) (count : Len)
    (begin check : State → State) :
    ∃ fire ∈ [s.txFire c, s.rxFire c, s.srcFire c],
      s.commandCycle c count begin check = s.onTransfer c fire (s.afterTransfer c) := by
  cases hk' : s.ctrl with
  | idle | done | settle | check => simp [hk', Ctrl.awaitsTransfer] at hk
  | txOp | txHdr | txData | rxLen | rxPay | fill | crcRun =>
    simp only [State.commandCycle, State.afterTransfer, hk']
    exact ⟨_, by simp, rfl⟩

/-- Settles O20: a sampling state waits on a transfer, and its gated cycle moves nothing. -/
theorem sampledErrorRaisesAndMovesNothing : Obligations.SampledErrorRaisesAndMovesNothing := by
  intro i s e hruns herr
  have hk := State.awaitsTransfer_of_sampledErr herr
  have hgated : s.ungated i.command = false := by simp [State.ungated, herr]
  have hquiet := State.cmdFire_eq_false_of_busy (State.busy_of_awaitsTransfer hk)
  obtain ⟨fire, -, hcycle⟩ :=
    State.commandCycle_awaiting i.command hk (offeredCount i) (beginOf i) (checkOf i.command)
  rw [exec_of_runs hruns, hcycle, State.transfers_gated hgated, State.onTransfer, herr]
  simp [hquiet]

/-! ## Waits (R160, R185) -/

/-- A byte is passed on only in the cycle that receives it (R133). -/
theorem State.rxFire_of_passed {s : State} {c : Command} (h : s.snkFire c = true ∨ s.resFire c = true) :
    s.rxFire c = true := by
  rcases h with h | h
  · simp only [State.snkFire, State.snkValid, State.snkRoute, Bool.and_eq_true] at h
    obtain ⟨⟨⟨hungated, ⟨-, hk⟩, hroute⟩, hvalid⟩, hready⟩ := h
    simp [State.rxFire, State.rxReady, State.payloadReady, hungated, hk, hroute, hvalid, hready]
  · simp only [State.resFire, State.resValid, State.resRoute, Bool.and_eq_true] at h
    obtain ⟨⟨⟨hungated, ⟨-, hk⟩, hroute⟩, hvalid⟩, hready⟩ := h
    have hsink : payloadToSink c = false := by
      cases c with
      | read => cases hroute
      | fwver | halt | start | cdone | erase | serial | write | verify => rfl
    simp [State.rxFire, State.rxReady, State.payloadReady, hungated, hk, hroute, hvalid, hready, hsink]

/-- Nothing moves where no command is accepted and no byte or token is sent, received or taken. -/
theorem State.transfers_eq_nil {s : State} {c : Command} (hcmd : s.cmdFire = false) (htx : s.txFire c = false)
    (hrx : s.rxFire c = false) (hsrc : s.srcFire c = false) : s.transfers c = [] := by
  have hpassed : ¬(s.snkFire c = true ∨ s.resFire c = true) := fun h => by simp [State.rxFire_of_passed h] at hrx
  rw [not_or, Bool.not_eq_true, Bool.not_eq_true] at hpassed
  simp [State.transfers, hcmd, htx, hrx, hsrc, hpassed]

/-- A cycle that waits on a transfer, samples no error and makes no transfer holds every register (R160). -/
theorem exec_holds {i : Instr} {s : State} (hruns : s.Runs i.command) (hk : s.ctrl.awaitsTransfer)
    (herr : s.sampledErr i.command = none) (htx : s.txFire i.command = false) (hrx : s.rxFire i.command = false)
    (hsrc : s.srcFire i.command = false) : exec i s = .next (s.tick []) := by
  have hcmd := State.cmdFire_eq_false_of_busy (State.busy_of_awaitsTransfer hk)
  obtain ⟨fire, hfire, hcycle⟩ :=
    State.commandCycle_awaiting i.command hk (offeredCount i) (beginOf i) (checkOf i.command)
  obtain rfl : fire = false := by simpa [htx, hrx, hsrc] using hfire
  rw [exec_of_runs hruns, hcycle, State.transfers_eq_nil hcmd htx hrx hsrc, State.onTransfer, herr]
  rfl

/-- A byte is sent only in a TX state, to an adapter that takes it (R151). -/
theorem State.txFire_eq_true {s : State} {c : Command} (h : s.txFire c = true) :
    s.ctrl ∈ [.txOp, .txHdr, .txData] ∧ s.now.txReady = true := by
  simp only [State.txFire, State.txValid, Bool.and_eq_true, Bool.or_eq_true, beq_iff_eq] at h
  obtain ⟨⟨-, hk⟩, hready⟩ := h
  exact ⟨by simpa [or_assoc] using hk, hready⟩

/-- A byte is received only in an RX state, where it is offered; in RX_PAY its destination takes it (R133, R151). -/
theorem State.rxFire_eq_true {s : State} {c : Command} (h : s.rxFire c = true) :
    s.ctrl ∈ [.rxLen, .rxPay] ∧ s.now.rxValid = true ∧ (s.ctrl = .rxPay → s.payloadReady c = true) := by
  simp only [State.rxFire, State.rxReady, Bool.and_eq_true, Bool.or_eq_true, beq_iff_eq] at h
  obtain ⟨hvalid, -, hk | ⟨hk, hready⟩⟩ := h
  · simp [hk, hvalid]
  · simp [hk, hvalid, hready]

/-- A token is taken only in FILL and CRC_RUN, where it is offered (R151). -/
theorem State.srcFire_eq_true {s : State} {c : Command} (h : s.srcFire c = true) :
    s.ctrl ∈ [.fill, .crcRun] ∧ s.now.srcValid = true := by
  simp only [State.srcFire, State.srcReady, Bool.and_eq_true, Bool.or_eq_true, beq_iff_eq] at h
  obtain ⟨hvalid, -, hk⟩ := h
  exact ⟨by simpa using hk, hvalid⟩

/-- Settles O22: each kind of wait lacks what the one transfer of its state needs. -/
theorem waitsHoldEveryRegister : Obligations.WaitsHoldEveryRegister := by
  intro i s hruns herr hwait
  have hk : s.ctrl.awaitsTransfer := by
    cases hk : s.ctrl with
    | idle | done | settle | check => simp [hk] at hwait
    | txOp | txHdr | txData | rxLen | rxPay | fill | crcRun => simp [Ctrl.awaitsTransfer]
  refine exec_holds hruns hk herr (Bool.eq_false_iff.mpr fun htx => ?_) (Bool.eq_false_iff.mpr fun hrx => ?_)
    (Bool.eq_false_iff.mpr fun hsrc => ?_)
  · obtain ⟨hk, hready⟩ := State.txFire_eq_true htx
    grind
  · obtain ⟨hk, hvalid, hready⟩ := State.rxFire_eq_true hrx
    grind [State.payloadReady, payloadToSink, payloadToResult]
  · obtain ⟨hk, hvalid⟩ := State.srcFire_eq_true hsrc
    grind

/-! ## The transitions (R150) -/

/-- The states R150 lists after each state outside reset. -/
def Ctrl.successors : Ctrl → List Ctrl
  | .idle => [.idle, .txOp, .fill, .crcRun, .done]
  | .done => [.txOp, .fill, .crcRun, .done]
  | .txOp => [.txOp, .rxLen, .txHdr, .done]
  | .txHdr => [.txHdr, .txData, .rxLen, .done]
  | .txData => [.txData, .settle, .done]
  | .settle => [.settle, .rxLen]
  | .rxLen => [.rxLen, .rxPay, .check, .done]
  | .rxPay => [.rxPay, .check, .done]
  | .check => [.txOp, .fill, .done]
  | .fill => [.fill, .txOp, .done]
  | .crcRun => [.crcRun, .txOp, .done]

theorem Ctrl.done_mem_successors {k : Ctrl} (hk : k.awaitsTransfer) : .done ∈ k.successors := by
  cases k with
  | idle | done | settle | check => simp [Ctrl.awaitsTransfer] at hk
  | txOp | txHdr | txData | rxLen | rxPay | fill | crcRun => simp [Ctrl.successors]

theorem Ctrl.mem_successors_self {k : Ctrl} (hk : k ≠ .check) : k ∈ k.successors := by
  cases k with
  | check => exact absurd rfl hk
  | idle | done | txOp | txHdr | txData | settle | rxLen | rxPay | fill | crcRun => simp [Ctrl.successors]

theorem Ctrl.awaitsTransfer.ne_check {k : Ctrl} (hk : k.awaitsTransfer) : k ≠ .check := by
  rintro rfl
  simp [Ctrl.awaitsTransfer] at hk

/-- Waiting on a transfer adds the error and the wait to where the action leads. -/
theorem State.onTransfer_ctrl_mem {s act : State} {c : Command} {fire : Bool} (hk : s.ctrl.awaitsTransfer)
    (hact : act.ctrl ∈ s.ctrl.successors) : (s.onTransfer c fire act).ctrl ∈ s.ctrl.successors := by
  rcases s.onTransfer_cases act c fire with ⟨e, -, heq⟩ | ⟨-, -, heq⟩ | ⟨-, -, heq⟩
  · rw [heq]
    exact Ctrl.done_mem_successors hk
  · rwa [heq]
  · rw [heq]
    exact Ctrl.mem_successors_self hk.ne_check

/-- Where a transfer leads (R113 to R115, R131, R134, R204, R250). -/
theorem State.afterTransfer_ctrl_mem {s : State} (c : Command) (hk : s.ctrl.awaitsTransfer) :
    (s.afterTransfer c).ctrl ∈ s.ctrl.successors := by
  unfold State.afterTransfer
  split
  next hk =>
    unfold State.afterOpcode
    split <;> simp [hk, Ctrl.successors]
  next hk =>
    unfold State.afterHeaderByte
    repeat' split
    all_goals simp [hk, Ctrl.successors]
  next hk =>
    unfold State.afterDataByte
    split <;> simp [hk, Ctrl.successors]
  next hk =>
    rw [State.takeLength_ctrl]
    repeat' split
    all_goals simp [hk, Ctrl.successors]
  next hk =>
    rw [State.takePayload_ctrl]
    split <;> simp [hk, Ctrl.successors]
  next hk =>
    unfold State.takeFill State.chunkReady
    repeat' split
    all_goals simp [hk, Ctrl.successors]
  next hk =>
    unfold State.takeCrc
    split <;> simp [hk, Ctrl.successors]
  next => exact Ctrl.mem_successors_self hk.ne_check

/-- Where a check leads (R157, R240, R251). -/
theorem State.checkOf_ctrl_mem (s : State) (c : Command) : (checkOf c s).ctrl ∈ [.txOp, .fill, .done] := by
  cases c with
  | fwver | serial => simp [checkOf]
  | halt | start | erase =>
    simp only [checkOf, State.checkMarker]
    split <;> simp
  | cdone =>
    simp only [checkOf, State.checkCdone]
    split
    · simp
    · split <;> simp
  | read =>
    simp only [checkOf, State.checkRead]
    split <;> simp
  | write =>
    simp only [checkOf, State.checkWrite]
    split
    · split <;> simp
    · simp
  | verify =>
    simp only [checkOf, State.checkVerify]
    split <;> simp

/-- Where a first move leads (R154). -/
theorem beginOf_ctrl_mem (i : Instr) (s : State) : (beginOf i s).ctrl ∈ [.txOp, .fill, .crcRun, .done] := by
  cases i with
  | fwver | halt | start | cdone | erase | serial => simp [beginOf, State.beginStatus]
  | read a n =>
    simp only [beginOf, State.beginRead]
    split <;> simp
  | write => simp [beginOf, State.beginWrite]
  | verify => simp [beginOf, State.beginVerify]

/-- Where a busy cycle leads. -/
theorem State.commandCycle_ctrl_mem {s : State} (hb : s.busy = true) (c : Command) (count : Len)
    (begin : State → State) : (s.commandCycle c count begin (checkOf c)).ctrl ∈ s.ctrl.successors := by
  by_cases hk : s.ctrl.awaitsTransfer
  · obtain ⟨fire, -, hcycle⟩ := State.commandCycle_awaiting c hk count begin (checkOf c)
    rw [hcycle]
    exact State.onTransfer_ctrl_mem hk (State.afterTransfer_ctrl_mem c hk)
  · obtain hk | hk : s.ctrl = .settle ∨ s.ctrl = .check := by
      simpa [Ctrl.awaitsTransfer, State.busy_eq_true.mp hb, or_iff_not_imp_left] using hk
    · simp only [State.commandCycle, hk, State.settleCycle]
      split <;> simp [Ctrl.successors]
    · simpa [State.commandCycle, hk, Ctrl.successors] using s.checkOf_ctrl_mem c

/-- Settles O24: a first move or BAD_OP follows acceptance, each busy state has its own successors, and a waiting CORE
stays. -/
theorem onlyTheListedTransitions : Obligations.OnlyTheListedTransitions := by
  intro s t hr hstep
  have hmem : t.ctrl ∈ s.ctrl.successors := by
    rcases step_next hstep with
      ⟨hr', -⟩ | ⟨c, hb, -, -, rfl⟩ | ⟨c, hf, -, -, rfl⟩ | ⟨-, -, hf, -, rfl⟩ | ⟨-, -, hb, -, rfl⟩
    · simp [hr] at hr'
    · exact State.commandCycle_ctrl_mem hb c _ _
    · have hmem := beginOf_ctrl_mem (offered c s.now.cmdCount)
        (s.acceptEffects c.select (offeredCount (offered c s.now.cmdCount)))
      obtain ⟨-, -, hb⟩ := State.cmdFire_eq_true.mp hf
      rcases State.busy_eq_false.mp hb with hk | hk
      · rw [hk]
        exact List.mem_cons_of_mem _ hmem
      · rwa [hk]
    · obtain ⟨-, -, hb⟩ := State.cmdFire_eq_true.mp hf
      rcases State.busy_eq_false.mp hb with hk | hk <;> simp [hk, Ctrl.successors]
    · exact Ctrl.mem_successors_self fun hk => by simp [State.busy, hk] at hb
  exact hmem

/-! ## SETTLE (R156) -/

/-- A SETTLE cycle of WRITE counts down and moves nothing, whatever its inputs. -/
theorem exec_settle {i : Instr} {s : State} (hi : i.command = .write) (hr : s.now.rst = false) (hl : s.legal = true)
    (hk : s.ctrl = .settle) : exec i s = .next (s.settleCycle.tick []) := by
  have hruns : s.Runs i.command := ⟨hr, State.stop_eq_none.mpr (by simp [hk, hl, hi, onPath])⟩
  rw [exec_of_runs hruns, State.transfers_quiet (.inl hk)]
  simp [State.commandCycle, hk]

/-- A SETTLE cycle takes one from its counter, and the one that takes the last leaves for RX_LEN. -/
theorem State.settleCycle_eq {s : State} (hk : s.ctrl = .settle) (hpos : 1 ≤ s.settleCnt) :
    s.settleCycle =
      { s with ctrl := if 1 = s.settleCnt then .rxLen else .settle, settleCnt := s.settleCnt - 1 } := by
  unfold State.settleCycle
  split
  next hle => simp [le_antisymm hle hpos]
  next hgt =>
    have hmore : 1 ≠ s.settleCnt := by omega
    simp [hmore, hk]

/-- The state `k` cycles of the settle delay later. -/
def State.settledFor (s : State) (k : Nat) : State :=
  { s with
    ctrl := if k = s.settleCnt then .rxLen else .settle
    settleCnt := s.settleCnt - k
    inputs := s.inputs.drop k
    cycle := s.cycle + k }

theorem step_settle {s : State} (hc : s.command = some .write) (hr : s.now.rst = false) (hl : s.legal = true)
    (hk : s.ctrl = .settle) (hpos : 1 ≤ s.settleCnt) : step s = .next (s.settledFor 1) := by
  refine step_of_exec (State.busy_eq_true.mpr (by simp [hk])) hc fun i hi => ?_
  rw [exec_settle hi hr hl hk, State.settleCycle_eq hk hpos]
  simp [State.tick, State.settledFor]

theorem State.settledFor_one_settledFor {s : State} (hpos : 1 ≤ s.settleCnt) (k : Nat) :
    (s.settledFor 1).settledFor k = s.settledFor (k + 1) := by
  have hlast : k = s.settleCnt - 1 ↔ k + 1 = s.settleCnt := by omega
  simp [State.settledFor, hlast, Nat.sub_sub, Nat.add_assoc, Nat.add_comm 1]

/-- The settle delay runs for as many cycles as the counter allows; at 0 it has already left for RX_LEN. -/
theorem run_settle {s : State} {script rest : List Inputs}
    (hk : s.ctrl = if 0 = s.settleCnt then .rxLen else .settle) (hc : s.command = some .write) (hl : s.legal = true)
    (hin : s.inputs = script ++ rest) (hquiet : ∀ n ∈ script, n.rst = false) (hle : script.length ≤ s.settleCnt) :
    Sys2Proof.core.run script.length s = .next (s.settledFor script.length) := by
  induction script generalizing s with
  | nil => simp [State.settledFor, ← hk]
  | cons n script ih =>
    rw [List.length_cons] at hle ⊢
    have hpos : 1 ≤ s.settleCnt := by omega
    have hr : s.now.rst = false := State.now_eq hin ▸ hquiet n List.mem_cons_self
    have hk' : s.ctrl = .settle := by rw [hk, if_neg (by omega)]
    have hnext : 1 = s.settleCnt ↔ 0 = s.settleCnt - 1 := by omega
    rw [run_succ_of_step (step_settle hc hr hl hk' hpos), ← State.settledFor_one_settledFor hpos script.length]
    exact ih (s := s.settledFor 1) (by simp [State.settledFor, hnext]) hc hl (by simp [State.settledFor, hin])
      (fun m hm => hquiet m (List.mem_cons_of_mem n hm)) (Nat.le_sub_of_add_le hle)

/-- Settles O36: a counter that is not 0 has not left SETTLE. -/
theorem settleLastsItsCount : Obligations.SettleLastsItsCount := by
  intro s script rest hk hc hl hin hquiet hle hpos
  rw [run_settle (by rw [hk, if_neg (by omega)]) hc hl hin hquiet hle]
  simp [State.settledFor, hin]

end Sys2Proof.Machine
end

section
/-! PROOFS of the statements of 43_address_sequencer.md: the checks of READ and WRITE (R192, R193, R240, R251), the sum
that a running READ keeps (R194), and FILL at end of input (R195, R250, R277). -/

namespace Sys2Proof.Machine

/-! ## The check of READ (R192, R193, R240) -/

/-- A CHECK cycle of READ runs its check and moves nothing, where the chunk is no longer than what remains (R193). -/
theorem exec_check_read {i : Instr} {s : State} (hi : i.command = .read) (hr : s.now.rst = false)
    (hl : s.legal = true) (hk : s.ctrl = .check) (hle : s.chunkLen.toNat ≤ s.remaining.toNat) :
    exec i s = .next (s.checkRead.tick []) := by
  have hruns : s.Runs i.command := ⟨hr, State.stop_eq_none.mpr (by simp [hk, hl, onPath, hle])⟩
  rw [exec_of_runs hruns, State.transfers_quiet (.inr hk)]
  simp [State.commandCycle, hk, hi, checkOf]

/-- An advance within the address space leaves the carry as it was (R192). -/
theorem State.advance_of_lt {s : State} (h : s.advanceSum < 2 ^ 32) :
    s.advance = { s with addr := BitVec.ofNat 32 s.advanceSum } := by
  rw [State.advance, decide_eq_false h.not_ge, Bool.or_false]

theorem State.remainingAfter_toNat {s : State} (hle : s.chunkLen.toNat ≤ s.remaining.toNat) :
    s.remainingAfter.toNat = s.remaining.toNat - s.chunkLen.toNat := by
  have hwidth : (s.chunkLen.setWidth 16).toNat = s.chunkLen.toNat := BitVec.toNat_setWidth_of_le (by decide)
  rw [State.remainingAfter, BitVec.toNat_sub_of_le (by rwa [BitVec.le_def, hwidth]), hwidth]

/-- READ's check consumes the chunk, whatever follows. -/
theorem State.checkRead_eq (s : State) :
    s.checkRead =
      { s.consumeChunk with
        ctrl := if s.remainingAfter = 0#16 then .done else .txOp
        chunkLen := if s.remainingAfter = 0#16 then s.chunkLen else nextChunk s.remainingAfter } := by
  unfold State.checkRead
  split <;> rfl

@[simp] theorem State.checkRead_addr (s : State) : s.checkRead.addr = BitVec.ofNat 32 s.advanceSum := by
  rw [State.checkRead_eq, State.consumeChunk_addr]

@[simp] theorem State.checkRead_remaining (s : State) : s.checkRead.remaining = s.remainingAfter := by
  rw [State.checkRead_eq, State.consumeChunk_remaining]

/-- Settles O40: the check consumes the chunk without a carry, and ends or goes on by what is left. -/
theorem readCheckAdvancesOrEnds : Obligations.ReadCheckAdvancesOrEnds := by
  intro a n s hr hl hk hle hlt
  refine ⟨_, exec_check_read rfl hr hl hk hle, ?_, ?_, fun hzero => ?_, fun hmore => ?_, ?_⟩
  · simpa [State.advanceSum] using hlt
  · simpa using State.remainingAfter_toNat hle
  · have hrem : s.remainingAfter = 0#16 := by simpa [← BitVec.toNat_inj] using hzero
    simp [State.checkRead_eq, hrem]
  · have hrem : s.remainingAfter ≠ 0#16 := by simpa [← BitVec.toNat_inj] using hmore
    simp [State.checkRead_eq, hrem, nextChunk_toNat]
  · simp [State.checkRead_eq, State.consumeChunk, State.advance_of_lt hlt]

/-! ## The check of WRITE (R192, R251) -/

/-- The carry of an advance is kept, or comes out of bit 31 (R192). -/
theorem State.advance_addrCarry_iff {s : State} :
    s.advance.addrCarry = true ↔ s.addrCarry = true ∨ 2 ^ 32 ≤ s.advanceSum := by
  rw [State.advance_addrCarry, Bool.or_eq_true, decide_eq_true_iff]

/-- Under 'O' WRITE's check advances the address, whatever follows. -/
theorem State.checkWrite_eq {s : State} (hok : s.rspB0 = markerOk) :
    s.checkWrite =
      { s.advance with
        ctrl := if s.eoi = true then .done else .fill
        bufIdx := if s.eoi = true then s.bufIdx else 0#9 } := by
  rw [State.checkWrite, if_pos hok]
  split <;> rfl

/-- Settles O41: the answer's branch, and under 'O' the advance by its fields. -/
theorem writeCheckAdvancesOrEnds : Obligations.WriteCheckAdvancesOrEnds := by
  intro a n d s hr hl hk
  rw [exec_check hr hl hk (by simp [Instr.command]), Instr.command, checkOf]
  refine ⟨fun hbad => ?_, fun hok => ?_⟩
  · have hmarker : s.rspB0 ≠ markerOk := hbad
    rw [State.checkWrite, if_neg hmarker]
    rfl
  · rw [State.checkWrite_eq hok]
    refine ⟨_, rfl, BitVec.toNat_ofNat .., State.advance_addrCarry_iff, ?_⟩
    by_cases heoi : s.eoi = true <;> simp [heoi, State.advance]

/-! ## What a running READ keeps (R194) -/

/-- The bytes a READ has read, which its address counts from 0, and those that remain (R190, R194). -/
def State.readTotal (s : State) : Nat :=
  s.addr.toNat + s.remaining.toNat

/-- No transfer of a byte or token touches the address or the remaining count. -/
theorem State.afterTransfer_readTotal (s : State) (c : Command) : (s.afterTransfer c).readTotal = s.readTotal := by
  unfold State.afterTransfer
  split <;> simp [State.readTotal]

/-- READ's check moves the chunk from what remains to what is read. -/
theorem State.Working.checkRead_readTotal {s : State} (h : s.Working .read) :
    s.checkRead.readTotal = s.readTotal := by
  obtain ⟨hlt, hadv, hrem⟩ := h.read_advance
  simp only [State.readTotal, State.checkRead_addr, State.checkRead_remaining, BitVec.toNat_ofNat, hrem,
    Nat.mod_eq_of_lt hlt]
  omega

/-- A cycle of a running READ keeps the sum: its transfers leave both parts alone, its check moves the chunk. -/
theorem State.Working.commandCycle_readTotal {s : State} (h : s.Working .read) (count : Len)
    (begin : State → State) : (s.commandCycle .read count begin State.checkRead).readTotal = s.readTotal := by
  by_cases hk : s.ctrl.awaitsTransfer
  · obtain ⟨fire, -, hcycle⟩ := State.commandCycle_awaiting .read hk count begin State.checkRead
    rw [hcycle]
    exact State.onTransfer_keeps State.readTotal (fun _ => rfl) (s.afterTransfer_readTotal .read)
  · have hsettle : s.ctrl ≠ .settle := fun e => by simpa [e, onPath] using h.path
    have hcheck : s.ctrl = .check := by
      simpa [Ctrl.awaitsTransfer, State.busy_eq_true.mp h.busy, hsettle] using hk
    simpa [State.commandCycle, hcheck] using h.checkRead_readTotal

/-- Settles O43: outside reset the step is a cycle of the running READ. -/
theorem readAddressPlusRemainingConstant : Obligations.ReadAddressPlusRemainingConstant := by
  intro a n s t hinv hb hc hr hstep
  rcases exec_next hstep with ⟨hreset, -⟩ | ⟨-, rfl⟩
  · simp [hr] at hreset
  · exact (hinv.working hb hc).commandCycle_readTotal _ _

/-! ## FILL (R195, R250, R277) -/

/-- A FILL cycle of WRITE takes the token offered to it. -/
theorem exec_fill_taken {i : Instr} {s : State} (hi : i.command = .write) (hr : s.now.rst = false)
    (hl : s.legal = true) (hk : s.ctrl = .fill) (he : s.now.srcErr = false) (hvalid : s.now.srcValid = true) :
    exec i s = .next (s.takeFill.tick [if s.now.srcEoi then .srcEoi else .src s.now.srcData]) := by
  have hruns : s.Runs i.command := ⟨hr, State.stop_eq_none.mpr (by simp [hk, hl, hi, onPath])⟩
  rw [exec_of_runs hruns, State.transfers_src (.inl hk) hr he, if_pos hvalid]
  simp [State.commandCycle, hk, State.onTransfer, State.sampledErr, he, State.srcFire_src (.inl hk) hr he, hvalid]

/-- Settles O45: the end-of-input branch of FILL, with its empty and its ready chunk. -/
theorem fillEndsInput : Obligations.FillEndsInput := by
  intro a n d s hr hl hk he hvalid heoi
  rw [exec_fill_taken rfl hr hl hk he hvalid, State.takeFill, if_pos heoi, if_pos heoi]
  rfl

end Sys2Proof.Machine
end

section
/-! PROOFS of the statements of 44_crc32_accumulator.md: the bit step (R200, R201) and its worked example (R205),
CRC_RUN (R204, R206), and the check of VERIFY (R203, R260). -/

namespace Sys2Proof.Machine

/-! ## The bit step (R200, R201) -/

theorem reverse_xor {w : Nat} (x y : BitVec w) : (x ^^^ y).reverse = x.reverse ^^^ y.reverse := by
  ext i hi
  simp [BitVec.getElem_reverse]

/-- Reversal turns a shift to the right into a shift to the left. -/
theorem reverse_ushiftRight {w : Nat} (x : BitVec w) (n : Nat) : (x >>> n).reverse = x.reverse <<< n := by
  ext i hi
  simp [BitVec.getElem_reverse, BitVec.getMsbD_ushiftRight, hi]

/-- R201's polynomial is R200's, bit-reversed. -/
theorem reverse_crcPoly : crcPoly.reverse = 0x04C11DB7#32 := by
  have hbits : ∀ i < 32, crcPoly.getMsbD i = (0x04C11DB7#32).getLsbD i := by decide
  ext i hi
  rw [BitVec.getElem_reverse, hbits i hi, BitVec.getLsbD_eq_getElem]

/-- Settles O48: reversal turns the bit step's test, shift and polynomial into those of the division. -/
theorem crcBitIsReflectedDivision : Obligations.CrcBitIsReflectedDivision := by
  intro c
  rw [crcBit, BitVec.msb_reverse, apply_ite BitVec.reverse, reverse_xor, reverse_ushiftRight, reverse_crcPoly]

/-- Settles O47: the byte step runs on the nine bytes. -/
theorem crcWorkedExample : Obligations.CrcWorkedExample := by
  constructor <;> decide

/-! ## CRC_RUN (R204, R206) -/

/-- A CRC_RUN cycle of VERIFY takes the token offered to it. -/
theorem step_crcRun_taken {s : State} (hk : s.ctrl = .crcRun) (hc : s.command = some .verify) (hl : s.legal = true)
    (hr : s.now.rst = false) (he : s.now.srcErr = false) (hvalid : s.now.srcValid = true) :
    step s = .next (s.takeCrc.tick [if s.now.srcEoi then .srcEoi else .src s.now.srcData]) := by
  have hruns : s.Runs .verify := ⟨hr, State.stop_eq_none.mpr (by simp [hk, hl, onPath])⟩
  rw [step_busy (State.busy_eq_true.mpr (by simp [hk])) hc, State.clocked_of_runs hruns,
    State.transfers_src (.inr hk) hr he, if_pos hvalid]
  simp [State.commandCycle, hk, State.onTransfer, State.sampledErr, he, State.srcFire_src (.inr hk) hr he, hvalid]

/-- Settles O46, by induction on the image: each byte is one `crc_step` that stays in CRC_RUN, and end of input leaves
for TX_OP. -/
theorem crcRunConsumesTheImage : Obligations.CrcRunConsumesTheImage := by
  intro s script rest last hk hc hl hin himage hr he hvalid heoi
  induction script generalizing s with
  | nil =>
    obtain rfl : s.now = last := State.now_eq hin
    have hstep := step_crcRun_taken hk hc hl hr he hvalid
    rw [State.takeCrc, if_pos heoi, if_pos heoi] at hstep
    refine (run_succ_of_step hstep).trans ?_
    simp [State.tick, hin]
  | cons n script ih =>
    obtain rfl : s.now = n := State.now_eq hin
    obtain ⟨⟨hrn, hen, hvn, hdata⟩, himage⟩ := List.forall_mem_cons.mp himage
    have hstep := step_crcRun_taken hk hc hl hrn hen hvn
    have hbyte : ¬s.now.srcEoi = true := by simp [hdata]
    rw [State.takeCrc, if_neg hbyte, if_neg hbyte] at hstep
    rw [List.length_cons, run_succ_of_step hstep,
      ih (State.tick { s with crc := crcStep s.crc s.now.srcData } [.src s.now.srcData]) hk hc hl (by simp [hin])
        himage]
    simp [State.tick, Nat.add_assoc, Nat.add_comm 1]

/-! ## The check of VERIFY (R203, R260) -/

/-- Settles O42: the local digest is `crc` after the final XOR. -/
theorem verifyCheckComparesDigests : Obligations.VerifyCheckComparesDigests := by
  intro a n s hr hl hk
  rw [exec_check hr hl hk (by simp [Instr.command]), Instr.command, checkOf, State.checkVerify, State.digest]
  rfl

end Sys2Proof.Machine
end

section
/-! PROOFS of the statements of 45_status_ops.md: the checks of the six status commands (R221 to R226), the round trip
of the four with a marker (R220), and what the six leave unchanged (R30 to R48). -/

namespace Sys2Proof.Machine

/-! ## The checks (R221 to R226) -/

/-- Settles O37: both checks are `State.finish`. -/
theorem opaqueResponsesSucceed : Obligations.OpaqueResponsesSucceed := by
  intro i s hi hr hl hk
  simp only [List.mem_cons, List.not_mem_nil, or_false] at hi
  rcases hi with rfl | rfl <;> exact exec_check hr hl hk (by decide)

/-- The marker check, by the number of the byte received. -/
theorem State.checkMarker_eq (s : State) (m : Byte) :
    s.checkMarker m =
      if s.rspB0.toNat = m.toNat then { s with ctrl := .done } else { s with errCode := .protocol, ctrl := .done } := by
  simp only [State.checkMarker, ← BitVec.toNat_inj]
  rfl

/-- CDONE's check, by the number of the byte received. -/
theorem State.checkCdone_eq (s : State) :
    s.checkCdone =
      if s.rspB0.toNat = 0x43 then { s with cdoneActive := true, ctrl := .done }
      else if s.rspB0.toNat = 0x63 then { s with cdoneActive := false, ctrl := .done }
      else { s with errCode := .protocol, ctrl := .done } := by
  simp only [State.checkCdone, ← BitVec.toNat_inj]
  rfl

/-- Settles O38: the three checks are the marker check, each with its own byte. -/
theorem markerChecks : Obligations.MarkerChecks := by
  intro i marker s hi hr hl hk
  obtain ⟨m, rfl, hread, hcheck⟩ : ∃ m : Byte,
      m.toNat = marker ∧ i.command ≠ .read ∧ checkOf i.command s = s.checkMarker m := by
    simp only [List.mem_cons, Prod.mk.injEq, List.not_mem_nil, or_false] at hi
    rcases hi with ⟨rfl, rfl⟩ | ⟨rfl, rfl⟩ | ⟨rfl, rfl⟩
    · exact ⟨markerHalt, rfl, by decide, rfl⟩
    · exact ⟨markerStart, rfl, by decide, rfl⟩
    · exact ⟨markerOk, rfl, by decide, rfl⟩
  rw [exec_check hr hl hk hread, hcheck, s.checkMarker_eq]

/-- Settles O39 by CDONE's check. -/
theorem cdoneCheck : Obligations.CdoneCheck := by
  intro s hr hl hk
  rw [exec_check hr hl hk (by decide), ← s.checkCdone_eq]
  rfl

/-- The check of a status command ends the operation; beside the outcome only CDONE's writes, and its flag alone. -/
theorem checkOf_of_f0 {c : Command} (hf : c.format = .f0) (s : State) :
    ∃ e a, checkOf c s = { s with errCode := e, cdoneActive := a, ctrl := .done } ∧
      (c ≠ .cdone → a = s.cdoneActive) := by
  cases c with
  | read | write | verify => cases hf
  | fwver | serial => exact ⟨s.errCode, s.cdoneActive, rfl, fun _ => rfl⟩
  | halt | start | erase =>
    simp only [checkOf, State.checkMarker]
    split
    · exact ⟨s.errCode, s.cdoneActive, rfl, fun _ => rfl⟩
    · exact ⟨.protocol, s.cdoneActive, rfl, fun _ => rfl⟩
  | cdone =>
    simp only [checkOf, State.checkCdone]
    split
    · exact ⟨s.errCode, true, rfl, nofun⟩
    · split
      · exact ⟨s.errCode, false, rfl, nofun⟩
      · exact ⟨.protocol, s.cdoneActive, rfl, nofun⟩

/-! ## The round trip of a command with a marker (R220, R222 to R225) -/

/-- The answers that HALT, START, CDONE and ERASE succeed with, as numbers (R222 to R225). -/
def markersOf (c : Command) : List Nat :=
  if c = .halt then [0x52] else if c = .start then [0x72] else if c = .erase then [0x4F] else [0x63, 0x43]

theorem State.checkMarker_errCode (s : State) (m : Byte) :
    (s.checkMarker m).errCode = if s.rspB0.toNat ∈ [m.toNat] then s.errCode else .protocol := by
  simp only [s.checkMarker_eq, apply_ite State.errCode, List.mem_singleton]

theorem State.checkCdone_errCode (s : State) :
    s.checkCdone.errCode = if s.rspB0.toNat ∈ [0x63, 0x43] then s.errCode else .protocol := by
  rw [s.checkCdone_eq]
  split
  next hactive => simp [hactive]
  next hactive =>
    split
    next hinactive => simp [hinactive]
    next hinactive => simp [hactive, hinactive]

/-- The outcome of a check with a marker: success for the command's own markers, PROTOCOL for any other byte. -/
theorem checkOf_errCode_of_marker {c : Command} (hc : c ∈ [Command.halt, .start, .cdone, .erase]) (s : State) :
    (checkOf c s).errCode = if s.rspB0.toNat ∈ markersOf c then s.errCode else .protocol := by
  simp only [List.mem_cons, List.not_mem_nil, or_false] at hc
  rcases hc with rfl | rfl | rfl | rfl
  · exact s.checkMarker_errCode markerHalt
  · exact s.checkMarker_errCode markerStart
  · exact s.checkCdone_errCode
  · exact s.checkMarker_errCode markerOk

/-- The flag after a check: where it was clear, only CDONE sets it, and only for 'C' (R224). -/
theorem checkOf_cdoneActive_of_f0 {c : Command} (hf : c.format = .f0) {s : State} (ha : s.cdoneActive = false) :
    (checkOf c s).cdoneActive = (c == .cdone && s.rspB0 == 0x43#8) := by
  by_cases hc : c = .cdone
  · subst hc
    rw [checkOf, State.checkCdone]
    split
    next hactive => simp [hactive, markerActive]
    next hactive =>
      have hbyte : s.rspB0 ≠ 0x43#8 := hactive
      split <;> simp [hbyte, ha]
  · obtain ⟨e, a, hcheck, hflag⟩ := checkOf_of_f0 hf s
    simp [hcheck, hflag hc, ha, hc]

/-- The only byte of a payload goes to `rsp_b0`, and the check follows (R133, R134, R136). -/
theorem State.Receiving.step_onlyByte {s : State} {c : Command} (h : s.Receiving c 1) (hlen : s.rspLen.toNat = 1)
    (hmoves : MovesPayload s.now c) :
    ∃ t, step s = .next t ∧ t.Receiving c 0 ∧ t.rspB0 = s.now.rxData ∧ t.inputs = s.inputs.tail ∧
      t.trace = s.trace ++ payloadTransfers c s.now.rxData := by
  have hstep : step s = .next ((s.takePayload c).tick (payloadTransfers c s.now.rxData)) := by
    refine step_of_exec h.busy h.command ?_
    rintro i rfl
    exact exec_payload_taken h.ctrl h.legal hmoves
  have hfirst : s.rxCnt = 0#9 := by
    have hcount := h.count (by decide)
    bv_omega
  exact ⟨_, hstep, h.takePayload _, by simp [State.takePayload_rspB0, hfirst], by simp, by simp⟩

/-- Settles O35: three cycles up to the payload, one for its byte, and the check, which compares that byte. -/
theorem markerCommandRoundTrip : Obligations.MarkerCommandRoundTrip := by
  intro s c n₀ n₁ n₂ n₃ n₄ rest hc hb hl hin hquiet hvalid hop hready hrx hlength hrx'
  simp only [List.forall_mem_cons] at hquiet
  obtain ⟨hq₀, hq₁, hq₂, ⟨hr₃, he₃⟩, ⟨hr₄, -⟩, -⟩ := hquiet
  obtain ⟨hf, hok, hread, hinside⟩ : c.format = .f0 ∧ (∀ t : State, t.lenOk c n₂.rxData = true) ∧ c ≠ .read ∧
      c ∉ [Command.fwver, .serial] := by
    simp only [List.mem_cons, List.not_mem_nil, or_false] at hc
    rw [hlength]
    rcases hc with rfl | rfl | rfl | rfl <;> exact ⟨rfl, fun _ => rfl, by decide, by decide⟩
  obtain ⟨t, hrun, hrecv, hlen, hint, htrace⟩ := run_statusCommand_answered hf hb hl hin (by simp [hq₀, hq₁, hq₂])
    hvalid hop hready hrx hok
  rw [hlength] at hrecv hlen htrace
  obtain rfl : t.now = n₃ := State.now_eq hint
  obtain ⟨u, hstep, hrecv', hbyte, hinu, htrace'⟩ := hrecv.step_onlyByte hlen
    ⟨hr₃, he₃, hrx', fun h => absurd h hread, fun h => absurd h hinside⟩
  rw [hint, List.tail_cons] at hinu
  have hstep' := hrecv'.step_check (State.now_eq hinu ▸ hr₄) hread
  have herr := checkOf_errCode_of_marker hc u
  rw [hbyte, hrecv'.errCode] at herr
  have hflag := checkOf_cdoneActive_of_f0 hf hrecv'.cdoneActive
  rw [hbyte] at hflag
  obtain ⟨e, a, hcheck, -⟩ := checkOf_of_f0 hf u
  refine ⟨(checkOf c u).tick [], ?_, ?_, ?_, ?_, fun hm => ?_, fun hm => ?_, hflag⟩
  · rw [run_add hrun 2, run_succ_of_step hstep, run_succ_of_step hstep', run_zero]
  · rw [hcheck]; rfl
  · rw [hcheck]; exact hbyte
  · rw [hcheck]
    simp [htrace', htrace, payloadTransfers, hread, hinside]
  · exact congrArg ErrKind.code (herr.trans (if_pos hm))
  · exact congrArg ErrKind.code (herr.trans (if_neg hm))

/-! ## What a status command leaves unchanged (R30 to R48, R220) -/

/-- The busy states of a status command (R220). -/
theorem State.ctrl_of_statusPath {s : State} {c : Command} (hf : c.format = .f0) (hb : s.busy = true)
    (hpath : onPath c s.ctrl = true) : s.ctrl = .txOp ∨ s.ctrl = .rxLen ∨ s.ctrl = .rxPay ∨ s.ctrl = .check := by
  have hwrite : c ≠ .write := by rintro rfl; cases hf
  have hverify : c ≠ .verify := by rintro rfl; cases hf
  cases hk : s.ctrl with
  | idle | done => simp [State.busy, hk] at hb
  | txOp | rxLen | rxPay | check => simp
  | txHdr | txData | settle | fill | crcRun => simp [onPath, hk, hf, hwrite, hverify] at hpath

/-- What a busy cycle of a status command can do: raise an error, hold, send its opcode, take a response byte, or end
(R113, R131, R134, R220). -/
theorem State.statusCycle_cases {s t : State} {c : Command} {count : Len} {begin : State → State}
    (hf : c.format = .f0) (hb : s.busy = true) (hpath : onPath c s.ctrl = true)
    (h : s.commandCycle c count begin (checkOf c) = t) :
    (∃ e, t = s.raise e) ∨ t = s ∨ t = { s with ctrl := .rxLen } ∨ (s.ctrl = .rxLen ∧ t = s.takeLength c) ∨
      (s.ctrl = .rxPay ∧ t = s.takePayload c) ∨
      ∃ e a, t = { s with errCode := e, cdoneActive := a, ctrl := .done } ∧ (c ≠ .cdone → a = s.cdoneActive) := by
  subst h
  have transfer (fire : Bool) (act : State) : (∃ e, s.onTransfer c fire act = s.raise e) ∨
      s.onTransfer c fire act = s ∨ s.onTransfer c fire act = act := by
    rcases s.onTransfer_cases act c fire with ⟨e, -, h⟩ | ⟨-, -, h⟩ | ⟨-, -, h⟩ <;> simp [h]
  rcases State.ctrl_of_statusPath hf hb hpath with hk | hk | hk | hk <;> simp only [State.commandCycle, hk]
  · exact (transfer _ _).imp_right (.imp_right fun h => .inl (h.trans (if_pos hf)))
  · exact (transfer _ _).imp_right (.imp_right fun h => .inr (.inl ⟨trivial, h⟩))
  · exact (transfer _ _).imp_right (.imp_right fun h => .inr (.inr (.inl ⟨trivial, h⟩)))
  · exact .inr (.inr (.inr (.inr (.inr (checkOf_of_f0 hf s)))))

/-- A status command writes no byte of the chunk buffer and not the parameter, in any cycle. -/
theorem exec_keeps_buf_of_f0 {i : Instr} {s t : State} (hf : i.command.format = .f0) (h : exec i s = .next t) :
    t.buf = s.buf ∧ t.settleCycles = s.settleCycles := by
  rcases exec_next h with ⟨-, rfl⟩ | ⟨⟨-, hstop⟩, rfl⟩
  · exact ⟨rfl, rfl⟩
  · by_cases hb : s.busy = true
    · obtain ⟨-, hpath, -⟩ := State.stop_eq_none.mp hstop
      generalize hcycle : s.commandCycle _ _ _ _ = u
      rcases State.statusCycle_cases hf hb hpath hcycle with
        ⟨e, rfl⟩ | rfl | rfl | ⟨-, rfl⟩ | ⟨-, rfl⟩ | ⟨e, a, rfl, -⟩ <;> simp
    · rw [beginOf_of_f0 hf]
      rcases State.busy_eq_false.mp (by simpa using hb) with hk | hk <;>
      · simp only [State.commandCycle, hk, State.acceptCycle]
        split <;> exact ⟨rfl, rfl⟩

/-- Settles O53: each thing a busy cycle can do leaves these registers alone. -/
theorem statusCommandFrame : Obligations.StatusCommandFrame := by
  intro i s t hi h
  have hformat : ∀ j ∈ [Instr.fwver, .halt, .start, .cdone, .erase, .serial], j.command.format = .f0 := by decide
  have hf := hformat i hi
  have hverify : i.command ≠ .verify := fun hv => by simp [hv, Command.format] at hf
  have hcdone : i ≠ .cdone → i.command ≠ .cdone := by cases i <;> simp [Instr.command]
  obtain ⟨hbuf, hsettle⟩ := exec_keeps_buf_of_f0 hf h
  refine ⟨fun k => by rw [hbuf], hsettle, fun hr hb => ?_⟩
  rcases exec_next h with ⟨hreset, -⟩ | ⟨⟨-, hstop⟩, rfl⟩
  · simp [hr] at hreset
  obtain ⟨-, hpath, -⟩ := State.stop_eq_none.mp hstop
  generalize hcycle : s.commandCycle _ _ _ _ = u
  rcases State.statusCycle_cases hf hb hpath hcycle with
    ⟨e, rfl⟩ | rfl | rfl | ⟨hk, rfl⟩ | ⟨hk, rfl⟩ | ⟨e, a, rfl, hflag⟩
  · simp
  · simp
  · simp
  · simp [hk]
  · simp [hk, State.takePayload_devCrc, hverify]
  · simpa using fun hi => hflag (hcdone hi)

end Sys2Proof.Machine
end

section
/-! PROOFS of the statements of 46_flash_read.md: what READ leaves unchanged (R240, R30 to R48), and a READ of one chunk
from acceptance to DONE (R240, R313, R314). -/

namespace Sys2Proof.Machine

/-! ## What a cycle of READ leaves unchanged (R30 to R48, R240) -/

/-- The busy states of READ (R240). -/
theorem State.ctrl_of_readPath {s : State} (hb : s.busy = true) (hpath : onPath .read s.ctrl = true) :
    s.ctrl = .txOp ∨ s.ctrl = .txHdr ∨ s.ctrl = .rxLen ∨ s.ctrl = .rxPay ∨ s.ctrl = .check := by
  cases hk : s.ctrl with
  | idle | done => simp [State.busy, hk] at hb
  | txOp | txHdr | rxLen | rxPay | check => simp
  | txData | settle | fill | crcRun => simp [onPath, hk] at hpath

/-- A state that waits on a transfer raises an error, holds or acts on it (R153, R160). -/
theorem State.onTransfer_outcomes (s act : State) (c : Command) (fire : Bool) :
    (∃ e, s.onTransfer c fire act = s.raise e) ∨ s.onTransfer c fire act = s ∨ s.onTransfer c fire act = act := by
  rcases s.onTransfer_cases act c fire with ⟨e, -, h⟩ | ⟨-, -, h⟩ | ⟨-, -, h⟩ <;> simp [h]

/-- What a busy cycle of READ can do: raise an error, hold, act on the transfer of its state, or check (R113, R114,
R131, R134, R240). -/
theorem State.readCycle_cases {s t : State} {count : Len} {begin : State → State} (hb : s.busy = true)
    (hpath : onPath .read s.ctrl = true) (h : s.commandCycle .read count begin State.checkRead = t) :
    (∃ e, t = s.raise e) ∨ t = s ∨ (s.ctrl = .txOp ∧ t = s.afterOpcode .read) ∨
      (s.ctrl = .txHdr ∧ t = s.afterHeaderByte .read) ∨ (s.ctrl = .rxLen ∧ t = s.takeLength .read) ∨
      (s.ctrl = .rxPay ∧ t = s.takePayload .read) ∨ (s.ctrl = .check ∧ t = s.checkRead) := by
  subst h
  rcases State.ctrl_of_readPath hb hpath with hk | hk | hk | hk | hk
  · simpa [State.commandCycle, hk] using s.onTransfer_outcomes (s.afterOpcode .read) .read (s.txFire .read)
  · simpa [State.commandCycle, hk] using s.onTransfer_outcomes (s.afterHeaderByte .read) .read (s.txFire .read)
  · simpa [State.commandCycle, hk] using s.onTransfer_outcomes (s.takeLength .read) .read (s.rxFire .read)
  · simpa [State.commandCycle, hk] using s.onTransfer_outcomes (s.takePayload .read) .read (s.rxFire .read)
  · simp [State.commandCycle, hk]

/-- The byte after TX_HDR's last goes to the buffer index for WRITE alone (R114). -/
theorem State.afterHeaderByte_bufIdx {c : Command} (hc : c ≠ .write) (s : State) :
    (s.afterHeaderByte c).bufIdx = s.bufIdx := by
  unfold State.afterHeaderByte
  rw [if_neg hc]
  split <;> rfl

/-- No first move writes a byte of the chunk buffer or the parameter (R154). -/
theorem beginOf_keeps_buf (i : Instr) (s : State) :
    (beginOf i s).buf = s.buf ∧ (beginOf i s).settleCycles = s.settleCycles := by
  cases i with
  | read a n =>
    simp only [beginOf, State.beginRead]
    split <;> exact ⟨rfl, rfl⟩
  | fwver | halt | start | cdone | erase | serial | write | verify => exact ⟨rfl, rfl⟩

/-- A waiting CORE writes no byte of the chunk buffer and not the parameter, whatever it accepts (R155, R300). -/
theorem exec_waiting_keeps_buf {i : Instr} {s t : State} (hb : s.busy = false) (h : exec i s = .next t) :
    t.buf = s.buf ∧ t.settleCycles = s.settleCycles := by
  rcases exec_next h with ⟨-, rfl⟩ | ⟨-, rfl⟩
  · exact ⟨rfl, rfl⟩
  · rcases State.busy_eq_false.mp hb with hk | hk <;>
    · simp only [State.commandCycle, hk, State.acceptCycle]
      split
      · exact beginOf_keeps_buf i _
      · exact ⟨rfl, rfl⟩

/-- READ writes no byte of the chunk buffer and not the parameter, in any cycle. -/
theorem exec_read_keeps_buf {a : Word} {n : Len} {s t : State} (h : exec (.read a n) s = .next t) :
    t.buf = s.buf ∧ t.settleCycles = s.settleCycles := by
  cases hb : s.busy with
  | false => exact exec_waiting_keeps_buf hb h
  | true =>
    rcases exec_next h with ⟨-, rfl⟩ | ⟨⟨-, hstop⟩, rfl⟩
    · exact ⟨rfl, rfl⟩
    · obtain ⟨-, hpath, -⟩ := State.stop_eq_none.mp hstop
      generalize hcycle : s.commandCycle _ _ _ _ = u
      rcases State.readCycle_cases hb hpath hcycle with
        ⟨e, rfl⟩ | rfl | ⟨-, rfl⟩ | ⟨-, rfl⟩ | ⟨-, rfl⟩ | ⟨-, rfl⟩ | ⟨-, rfl⟩ <;> simp

/-- Settles O54: each thing a busy cycle of READ can do leaves these registers alone. -/
theorem readFrame : Obligations.ReadFrame := by
  intro a n s t h
  obtain ⟨hbuf, hsettle⟩ := exec_read_keeps_buf h
  refine ⟨fun k => by rw [hbuf], hsettle, fun hr hb => ?_⟩
  rcases exec_next h with ⟨hreset, -⟩ | ⟨⟨-, hstop⟩, rfl⟩
  · simp [hr] at hreset
  obtain ⟨-, hpath, -⟩ := State.stop_eq_none.mp hstop
  generalize hcycle : s.commandCycle _ _ _ _ = u
  rcases State.readCycle_cases hb hpath hcycle with
    ⟨e, rfl⟩ | rfl | ⟨hk, rfl⟩ | ⟨hk, rfl⟩ | ⟨hk, rfl⟩ | ⟨hk, rfl⟩ | ⟨hk, rfl⟩
  · simp
  · simp
  · simp [hk]
  · simp [hk, State.afterHeaderByte_bufIdx]
  · simp [hk]
  · simp [hk, State.takePayload_devCrc]
  · simp [hk]

/-! ## What stands still inside a round trip (R117, R131, R134) -/

/-- No TX rule writes the chunk, the address or the outcome. -/
theorem State.afterTxByte_sameChunk (s : State) (c : Command) (m : List Transfer) :
    s.SameChunk ((s.afterTxByte c).tick m) := by
  unfold State.afterTxByte
  split <;> constructor <;> simp

/-- An accepted length byte leaves the chunk, the address and the outcome alone (R131). -/
theorem State.takeLength_sameChunk {s : State} {c : Command} (hok : s.lenOk c s.now.rxData = true)
    (m : List Transfer) : s.SameChunk ((s.takeLength c).tick m) := by
  constructor <;> simp [State.takeLength_errCode, hok]

/-- A payload byte leaves the chunk, the address and the outcome alone (R134). -/
theorem State.takePayload_sameChunk (s : State) (c : Command) (m : List Transfer) :
    s.SameChunk ((s.takePayload c).tick m) := by
  constructor <;> simp

theorem State.SameChunk.pending {s t : State} {c : Command} (hsame : s.SameChunk t) (h : s.Pending c)
    (hl : t.legal = true) : t.Pending c where
  command := by rw [State.command, hsame.op]; exact h.command
  legal := hl
  errCode := hsame.errCode.trans h.errCode
  cdoneActive := hsame.cdoneActive.trans h.cdoneActive
  verifyOk := hsame.verifyOk.trans h.verifyOk

/-- A byte of the frame keeps every register in its legal range, the last one too (R54). -/
theorem State.Sending.afterTxByte_legal {s : State} {c : Command} (h : s.Sending c) :
    (s.afterTxByte c).legal = true := by
  obtain ⟨htx, hchunk, hidx, hrsp, hrx⟩ := State.legal_iff.mp h.legal
  rcases h.tx with hk | hk | hk <;> simp only [State.afterTxByte, hk]
  · unfold State.afterOpcode
    split
    next => exact h.legal
    next => exact State.legal_iff.mpr ⟨Nat.zero_le _, hchunk, hidx, hrsp, hrx⟩
  · unfold State.afterHeaderByte
    split
    next =>
      split
      next => exact State.legal_iff.mpr ⟨htx, hchunk, Nat.zero_le _, hrsp, hrx⟩
      next => exact h.legal
    next hmore => exact State.legal_iff.mpr ⟨by bv_omega, hchunk, hidx, hrsp, hrx⟩
  · have hlt := h.data hk
    unfold State.afterDataByte
    split
    next => exact h.legal
    next => exact State.legal_iff.mpr ⟨htx, hchunk, by bv_omega, hrsp, hrx⟩

/-- A property that each byte sent keeps holds at the end of the frame. -/
theorem State.Sending.run_keeps {P : State → Prop} {c : Command}
    (hP : ∀ (u : State) (m : List Transfer), u.Sending c → P u → P ((u.afterTxByte c).tick m)) {s t : State}
    {script rest : List Inputs} (h : s.Sending c) (hin : s.inputs = script ++ rest)
    (hlen : s.txPos + script.length = (encode (s.frame c)).length)
    (hready : ∀ n ∈ script, n.rst = false ∧ n.chErr = false ∧ n.txReady = true)
    (hrun : Sys2Proof.core.run script.length s = .next t) (hs : P s) : P t := by
  induction script generalizing s with
  | nil => exact absurd hlen h.txPos_lt.ne
  | cons n script ih =>
    have hnow : s.now = n := State.now_eq hin
    obtain ⟨hr, he, htx⟩ := hnow ▸ hready n List.mem_cons_self
    rw [List.length_cons] at hlen hrun
    rw [run_succ_of_step (h.step_eq hr he htx)] at hrun
    have hnext := hP s [.tx (s.txByte c)] h hs
    rcases h.afterTxByte with ⟨hsending, hpos⟩ | ⟨-, hlast⟩
    · exact ih (hsending.tick _) (by simp [hin])
        (by simp only [State.tick_txPos, State.tick_frame, State.afterTxByte_frame, hpos]; omega)
        (fun m hm => hready m (List.mem_cons_of_mem n hm)) hrun hnext
    · obtain rfl : script = [] := List.length_eq_zero_iff.mp (by omega)
      cases hrun
      exact hnext

/-- A byte of the payload that its destination takes is received and routed (R133, R134). -/
theorem State.Receiving.step_eq {s : State} {c : Command} {left : Nat} (h : s.Receiving c (left + 1))
    (hmoves : MovesPayload s.now c) :
    step s = .next ((s.takePayload c).tick (payloadTransfers c s.now.rxData)) := by
  refine step_of_exec h.busy h.command ?_
  rintro i rfl
  exact exec_payload_taken h.ctrl h.legal hmoves

/-- A property that each payload byte keeps holds at the end of the payload. -/
theorem State.Receiving.run_keeps {P : State → Prop} {c : Command}
    (hP : ∀ (u : State) (m : List Transfer) (left : Nat), u.Receiving c (left + 1) → P u →
      P ((u.takePayload c).tick m)) {s t : State} {script rest : List Inputs} (h : s.Receiving c script.length)
    (hin : s.inputs = script ++ rest) (hmoves : ∀ n ∈ script, MovesPayload n c)
    (hrun : Sys2Proof.core.run script.length s = .next t) (hs : P s) : P t := by
  induction script generalizing s with
  | nil =>
    cases hrun
    exact hs
  | cons n script ih =>
    obtain rfl : s.now = n := State.now_eq hin
    rw [List.length_cons, run_succ_of_step (h.step_eq (hmoves _ List.mem_cons_self))] at hrun
    exact ih (h.takePayload _) (by simp [hin]) (fun m hm => hmoves m (List.mem_cons_of_mem _ hm)) hrun
      (hP s _ script.length h hs)

/-! ## READ of one chunk (R240, R313, R314) -/

/-- A READ of `n` bytes, all of them its first chunk, is in progress and has read none (R190, R191). -/
structure State.ReadingChunk (s : State) (n : Len) : Prop extends s.Pending .read where
  addr : s.addr = 0#32
  remaining : s.remaining = n
  chunkLen : s.chunkLen.toNat = n.toNat

theorem State.ReadingChunk.of_sameChunk {s t : State} {n : Len} (h : s.ReadingChunk n) (hsame : s.SameChunk t)
    (hl : t.legal = true) : t.ReadingChunk n where
  toPending := hsame.pending h.toPending hl
  addr := hsame.addr.trans h.addr
  remaining := hsame.remaining.trans h.remaining
  chunkLen := hsame.chunkLen ▸ h.chunkLen

/-- The frame of the first chunk names address 0 and the whole count (R111, R112). -/
theorem State.ReadingChunk.frame_eq {s : State} {n : Len} (h : s.ReadingChunk n) :
    s.frame .read = .read 0#32 n := by
  have hlen : s.lenField .read = n :=
    BitVec.eq_of_toNat_eq ((State.lenField_toNat (by decide)).trans h.chunkLen)
  rw [State.frame, h.addr, hlen]

/-- The cycle that accepts a READ of 1 to 256 bytes takes them as its first chunk (R154, R155, R191). -/
theorem step_read_accepted {s : State} (hfire : s.cmdFire = true) (hl : s.legal = true) (hop : s.now.cmdOp = 6#4)
    (hpos : 1 ≤ s.now.cmdCount.toNat) (hle : s.now.cmdCount.toNat ≤ 256) :
    ∃ t, step s = .next t ∧ t.ReadingChunk s.now.cmdCount ∧ t.ctrl = .txOp ∧ t.inputs = s.inputs.tail ∧
      t.trace = s.trace ++ [.cmd s.now.cmdOp s.now.cmdCount] := by
  have hsel : Command.ofSelect s.now.cmdOp = some .read := by rw [hop]; rfl
  have hne : s.now.cmdCount ≠ 0#16 := by bv_omega
  have hchunk : (nextChunk s.now.cmdCount).toNat = s.now.cmdCount.toNat := by
    rw [nextChunk_toNat, min_eq_left hle]
  have hstep := step_accept hfire hsel
  rw [exec_accept _ hfire hl, offered, beginOf, State.beginRead, if_neg hne] at hstep
  have hlegal : State.legal { s.acceptEffects Command.read.select s.now.cmdCount with
      chunkLen := nextChunk s.now.cmdCount, ctrl := .txOp } = true :=
    State.legal_iff.mpr ⟨Nat.zero_le _, hchunk.trans_le hle, Nat.zero_le _, Nat.zero_le _, Nat.zero_le _⟩
  exact ⟨_, hstep, ⟨⟨Command.ofSelect_select .read, hlegal, rfl, rfl, rfl⟩, rfl, rfl, hchunk⟩, rfl, rfl, rfl⟩

/-- The seven bytes of the chunk's frame are sent (R113, R114, R116). -/
theorem State.ReadingChunk.run_frame {s : State} {n : Len} {tx rest : List Inputs} (h : s.ReadingChunk n)
    (hk : s.ctrl = .txOp) (hin : s.inputs = tx ++ rest) (hlen : tx.length = 7)
    (hready : ∀ m ∈ tx, m.rst = false ∧ m.chErr = false ∧ m.txReady = true) :
    ∃ t, Sys2Proof.core.run 7 s = .next t ∧ t.ReadingChunk n ∧ t.ctrl = .rxLen ∧ t.inputs = rest ∧
      t.trace = s.trace ++ (encode (.read 0#32 n)).map Transfer.tx := by
  have hsending : s.Sending .read := ⟨h.command, h.legal, .inl hk, by rw [hk]; rfl, nofun, by simp [hk]⟩
  have hpos : s.txPos = 0 := by rw [State.txPos, hk]
  have hlen' : tx.length = (encode (s.frame .read)).length := by rw [hlen, h.frame_eq]; rfl
  obtain ⟨t, hrun, htrace, hctrl, hrest⟩ :=
    frameSentIsItsEncoding s .read tx rest hk h.command h.legal nofun hin hlen' hready
  have hreading := hsending.run_keeps (P := (State.ReadingChunk · n))
    (fun u m hu hreading => hreading.of_sameChunk (u.afterTxByte_sameChunk .read m) hu.afterTxByte_legal)
    hin (by rw [hpos, Nat.zero_add, hlen']) hready hrun h
  exact ⟨t, hlen ▸ hrun, hreading, hctrl, hrest, h.frame_eq ▸ htrace⟩

/-- The length byte of a chunk and its payload are taken, and the check follows (R131, R134). -/
theorem State.ReadingChunk.run_response {s : State} {n : Len} {nk : Inputs} {pay rest : List Inputs}
    (h : s.ReadingChunk n) (hk : s.ctrl = .rxLen) (hin : s.inputs = nk :: (pay ++ rest)) (hr : nk.rst = false)
    (he : nk.chErr = false) (hvalid : nk.rxValid = true) (hbyte : nk.rxData.toNat = n.toNat % 256)
    (hlen : pay.length = n.toNat) (hmoves : ∀ m ∈ pay, MovesPayload m .read) :
    ∃ t, Sys2Proof.core.run (pay.length + 1) s = .next t ∧ t.ReadingChunk n ∧ t.ctrl = .check ∧ t.inputs = rest ∧
      t.trace = s.trace ++ [.rx nk.rxData] ++ pay.flatMap fun m => [.rx m.rxData, .snk m.rxData] := by
  obtain rfl : s.now = nk := State.now_eq hin
  have hok : s.lenOk .read s.now.rxData = true := by
    simp [State.lenOk, ← BitVec.toNat_inj, hbyte, h.chunkLen]
  have hstep : step s = .next ((s.takeLength .read).tick [.rx s.now.rxData]) :=
    step_of_exec (State.busy_eq_true.mpr (by simp [hk])) h.command fun i hi =>
      hi ▸ exec_length_taken hr h.legal hk he hvalid
  have hrecv := h.takeLength hok [.rx s.now.rxData]
  have hreading := h.of_sameChunk (State.takeLength_sameChunk hok _) hrecv.legal
  have hcount : (s.pcount .read s.now.rxData).toNat = pay.length := h.chunkLen.trans hlen.symm
  rw [hcount] at hrecv
  have hin' : ((s.takeLength .read).tick [.rx s.now.rxData]).inputs = pay ++ rest := by simp [hin]
  obtain ⟨t, hrun, hend, -, hrest, htrace⟩ := hrecv.run_payload hin' hmoves
  have hreading' := hrecv.run_keeps (P := (State.ReadingChunk · n))
    (fun u m _ hu hreading => hreading.of_sameChunk (u.takePayload_sameChunk .read m) (hu.takePayload m).legal)
    hin' hmoves hrun hreading
  exact ⟨t, (run_succ_of_step hstep).trans hrun, hreading', hend.ctrl, hrest, by simpa [payloadTransfers] using htrace⟩

/-- The check of the only chunk ends the READ with success, `n` bytes on (R157, R192, R193, R240). -/
theorem State.ReadingChunk.step_check {s : State} {n : Len} (h : s.ReadingChunk n) (hk : s.ctrl = .check)
    (hr : s.now.rst = false) :
    ∃ t, step s = .next t ∧ t.ctrl = .done ∧ t.errCode = .none ∧ t.addr.toNat = n.toNat ∧ t.remaining = 0#16 ∧
      t.inputs = s.inputs.tail ∧ t.trace = s.trace := by
  have hle : s.chunkLen.toNat ≤ s.remaining.toNat := by rw [h.chunkLen, h.remaining]
  have hstep : step s = .next (s.checkRead.tick []) :=
    step_of_exec (State.busy_eq_true.mpr (by simp [hk])) h.command fun i hi => exec_check_read hi hr h.legal hk hle
  have hrem : s.remainingAfter = 0#16 :=
    BitVec.eq_of_toNat_eq (by simp [State.remainingAfter_toNat hle, h.chunkLen, h.remaining])
  have hsum : s.advanceSum = n.toNat := by rw [State.advanceSum, h.addr, h.chunkLen, BitVec.toNat_zero, Nat.zero_add]
  have haddr : (BitVec.ofNat 32 s.advanceSum).toNat = n.toNat := by
    rw [hsum, BitVec.toNat_ofNat, Nat.mod_eq_of_lt (n.isLt.trans (by decide))]
  exact ⟨_, hstep, by simp [State.checkRead_eq, hrem], by simpa using h.errCode, by simpa using haddr, by simp [hrem],
    by simp, by simp⟩

/-- Settles O49: one cycle accepts the command, seven send the frame, one takes the length byte, one each byte of the
payload, and one checks. -/
theorem readOfOneChunkCompletes : Obligations.ReadOfOneChunkCompletes := by
  intro s n₀ nk nc tx pay rest hb hl hin hquiet hvalid hop hpos hle htx hready hrx hbyte hpay hmoves
  simp only [List.forall_mem_cons, List.forall_mem_append] at hquiet
  obtain ⟨⟨hr₀, -⟩, ⟨hrk, hek, -⟩, ⟨hrc, -⟩, hqtx, hqpay⟩ := hquiet
  obtain rfl : s.now = n₀ := State.now_eq hin
  obtain ⟨s₁, hstep₁, hreading₁, hk₁, hin₁, htrace₁⟩ :=
    step_read_accepted (State.cmdFire_eq_true.mpr ⟨hvalid, hr₀, hb⟩) hl hop hpos hle
  rw [hin, List.tail_cons] at hin₁
  obtain ⟨s₂, hrun₂, hreading₂, hk₂, hin₂, htrace₂⟩ := hreading₁.run_frame hk₁ hin₁ htx fun m hm =>
    ⟨(hqtx m hm).1, (hqtx m hm).2.1, hready m hm⟩
  obtain ⟨s₃, hrun₃, hreading₃, hk₃, hin₃, htrace₃⟩ :=
    hreading₂.run_response hk₂ hin₂ hrk hek hrx hbyte hpay fun m hm =>
    ⟨(hqpay m hm).1, (hqpay m hm).2.1, (hmoves m hm).1, fun _ => ⟨(hqpay m hm).2.2, (hmoves m hm).2⟩, by simp⟩
  obtain ⟨t, hstep₄, hdone, herr, haddr, hrem, hin₄, htrace₄⟩ := hreading₃.step_check hk₃ (State.now_eq hin₃ ▸ hrc)
  have hrun : Sys2Proof.core.run (s.now.cmdCount.toNat + 10) s = .next t := by
    rw [← hpay, run_succ_of_step hstep₁, show pay.length + 9 = 1 + (pay.length + 1) + 7 by omega, run_add hrun₂,
      run_add hrun₃, run_succ_of_step hstep₄, run_zero]
  exact ⟨t, hrun, hdone, congrArg ErrKind.code herr, haddr, hrem, by rw [hin₄, hin₃, List.tail_cons],
    by rw [htrace₄, htrace₃, htrace₂, htrace₁]⟩

end Sys2Proof.Machine
end

section
/-! PROOFS of the statements of 47_flash_write.md: the store of FILL (R250, R277), what WRITE leaves unchanged (R250,
R251, R30 to R48), and a WRITE of one chunk from acceptance to DONE (R251, R313, R314). -/

namespace Sys2Proof.Machine

/-! ## The store of FILL (R250, R277) -/

/-- While the chunk has room, FILL's index is `buf_idx` itself. -/
theorem State.fillIndex_of_le {s : State} (h : s.bufIdx.toNat ≤ 255) : s.fillIndex = s.bufIdx.toNat :=
  Nat.mod_eq_of_lt (Nat.lt_succ_of_le h)

/-- A data token stored at `buf_idx` fills one more place of the chunk, or the last one (R250). -/
theorem State.takeFill_of_data {s : State} (hdata : s.now.srcEoi = false) :
    s.takeFill =
      if s.bufIdx.toNat ≠ 255 then { s with buf := s.storeByte.buf, bufIdx := s.bufIdx + 1#9 }
      else if s.addrCarry = true then { s with buf := s.storeByte.buf, errCode := .addrOverflow, ctrl := .done }
      else { s with buf := s.storeByte.buf, chunkLen := 256#9, ctrl := .txOp } := by
  rw [State.takeFill, if_neg (by simp [hdata])]
  by_cases hlast : s.bufIdx.toNat = 255
  · rw [if_pos (by rw [hlast]), if_neg (not_not.mpr hlast)]
    rfl
  · rw [if_neg (by omega), if_pos hlast]
    rfl

/-- The stored byte is read back at `buf_idx`. -/
theorem State.read_storeByte {s : State} (hidx : s.bufIdx.toNat ≤ 255) (hwf : Memory.wf s.buf = true) :
    Memory.read s.storeByte.buf s.bufIdx.toNat = s.now.srcData := by
  rw [State.storeByte_buf, State.fillIndex_of_le hidx]
  exact Memory.read_write_same s.buf _ _ 0 hwf

/-- The bytes at the other indices are read as before. -/
theorem State.read_storeByte_of_ne {s : State} {k : Nat} (hk : k ≠ s.fillIndex) :
    Memory.read s.storeByte.buf k = Memory.read s.buf k :=
  Memory.read_write_other s.buf _ k _ hk

/-- The buffer after a token of FILL: as it was at end of input, with the byte stored for a data token (R250). -/
theorem State.takeFill_stores (s : State) :
    s.takeFill.buf = s.buf ∨ s.now.srcEoi = false ∧ s.takeFill.buf = s.storeByte.buf := by
  rw [State.takeFill_buf]
  cases s.now.srcEoi with
  | true => exact .inl rfl
  | false => exact .inr ⟨rfl, rfl⟩

/-- Settles O44: the cycle takes the token, stores its byte, and goes on by the room left. -/
theorem fillStoresDataByte : Obligations.FillStoresDataByte := by
  intro a n d s hr hl hk hidx hwf he hvalid hdata
  have hbuf : s.takeFill.buf = s.storeByte.buf := by rw [State.takeFill_buf, hdata]; rfl
  refine ⟨_, exec_fill_taken rfl hr hl hk he hvalid, ?_, fun k hne => ?_, ?_⟩
  · rw [State.tick_buf, hbuf, State.read_storeByte hidx hwf]
  · rw [State.tick_buf, hbuf, State.read_storeByte_of_ne (by rwa [State.fillIndex_of_le hidx])]
  · rw [State.tick_buf, hbuf, ← State.takeFill_of_data hdata, hdata]
    rfl

/-! ## What a cycle of WRITE leaves unchanged (R30 to R48, R250, R251) -/

/-- The busy states of WRITE (R251). -/
theorem State.ctrl_of_writePath {s : State} (hb : s.busy = true) (hpath : onPath .write s.ctrl = true) :
    s.ctrl ∈ [.txOp, .txHdr, .txData, .settle, .rxLen, .rxPay, .check, .fill] := by
  cases hk : s.ctrl with
  | idle | done => simp [State.busy, hk] at hb
  | txOp | txHdr | txData | settle | rxLen | rxPay | check | fill => decide
  | crcRun => simp [onPath, hk] at hpath

/-- What a busy cycle of WRITE can do: raise an error, hold, take the token of FILL, act on the transfer of another
state, count down the settle delay, or check (R113 to R115, R131, R134, R156, R250, R251). -/
theorem State.writeCycle_cases {s t : State} {count : Len} {begin : State → State} (hb : s.busy = true)
    (hpath : onPath .write s.ctrl = true) (h : s.commandCycle .write count begin State.checkWrite = t) :
    (∃ e, t = s.raise e) ∨ t = s ∨ (s.ctrl = .fill ∧ s.srcFire .write = true ∧ t = s.takeFill) ∨
      (s.ctrl = .txOp ∧ t = s.afterOpcode .write) ∨ (s.ctrl = .txHdr ∧ t = s.afterHeaderByte .write) ∨
      (s.ctrl = .txData ∧ t = s.afterDataByte) ∨ (s.ctrl = .settle ∧ t = s.settleCycle) ∨
      (s.ctrl = .rxLen ∧ t = s.takeLength .write) ∨ (s.ctrl = .rxPay ∧ t = s.takePayload .write) ∨
      (s.ctrl = .check ∧ t = s.checkWrite) := by
  subst h
  have hctrl := State.ctrl_of_writePath hb hpath
  simp only [List.mem_cons, List.not_mem_nil, or_false] at hctrl
  rcases hctrl with hk | hk | hk | hk | hk | hk | hk | hk
  · simpa [State.commandCycle, hk] using s.onTransfer_outcomes (s.afterOpcode .write) .write (s.txFire .write)
  · simpa [State.commandCycle, hk] using s.onTransfer_outcomes (s.afterHeaderByte .write) .write (s.txFire .write)
  · simpa [State.commandCycle, hk] using s.onTransfer_outcomes s.afterDataByte .write (s.txFire .write)
  · simp [State.commandCycle, hk]
  · simpa [State.commandCycle, hk] using s.onTransfer_outcomes (s.takeLength .write) .write (s.rxFire .write)
  · simpa [State.commandCycle, hk] using s.onTransfer_outcomes (s.takePayload .write) .write (s.rxFire .write)
  · simp [State.commandCycle, hk]
  · rcases s.onTransfer_cases s.takeFill .write (s.srcFire .write) with ⟨e, -, h⟩ | ⟨-, hf, h⟩ | ⟨-, -, h⟩
    · exact .inl ⟨e, by simp [State.commandCycle, hk, h]⟩
    · exact .inr (.inr (.inl ⟨hk, hf, by simp [State.commandCycle, hk, h]⟩))
    · exact .inr (.inl (by simp [State.commandCycle, hk, h]))

/-- WRITE writes the chunk buffer with a data token of FILL alone, and the parameter never. -/
theorem exec_write_buf {a : Word} {n : Len} {d : List Byte} {s t : State} (h : exec (.write a n d) s = .next t) :
    (t.buf = s.buf ∨ s.ctrl = .fill ∧ s.srcFire .write = true ∧ s.now.srcEoi = false ∧ t.buf = s.storeByte.buf) ∧
      t.settleCycles = s.settleCycles := by
  cases hb : s.busy with
  | false => exact (exec_waiting_keeps_buf hb h).imp_left .inl
  | true =>
    rcases exec_next h with ⟨-, rfl⟩ | ⟨⟨-, hstop⟩, rfl⟩
    · exact ⟨.inl rfl, rfl⟩
    · obtain ⟨-, hpath, -⟩ := State.stop_eq_none.mp hstop
      generalize hcycle : s.commandCycle _ _ _ _ = u
      rcases State.writeCycle_cases hb hpath hcycle with
        ⟨e, rfl⟩ | rfl | ⟨hk, hf, rfl⟩ | ⟨-, rfl⟩ | ⟨-, rfl⟩ | ⟨-, rfl⟩ | ⟨-, rfl⟩ | ⟨-, rfl⟩ | ⟨-, rfl⟩ | ⟨-, rfl⟩
      · simp
      · simp
      · simpa [hk, hf] using s.takeFill_stores
      all_goals simp

/-- Settles O55: a data token of FILL stores at one index, and each thing a busy cycle of WRITE can do leaves these
registers alone. -/
theorem writeFrame : Obligations.WriteFrame := by
  intro a n d s t h
  obtain ⟨hbuf, hsettle⟩ := exec_write_buf h
  refine ⟨fun k hk => ?_, hsettle, fun hr hb => ?_⟩
  · rcases hbuf with hbuf | ⟨hfill, hfire, hdata, hbuf⟩
    · rw [hbuf]
    · rw [hbuf, State.read_storeByte_of_ne (by simpa [hfill, hfire, hdata] using hk)]
  rcases exec_next h with ⟨hreset, -⟩ | ⟨⟨-, hstop⟩, rfl⟩
  · simp [hr] at hreset
  obtain ⟨-, hpath, -⟩ := State.stop_eq_none.mp hstop
  generalize hcycle : s.commandCycle _ _ _ _ = u
  rcases State.writeCycle_cases hb hpath hcycle with
    ⟨e, rfl⟩ | rfl | ⟨hk, -, rfl⟩ | ⟨hk, rfl⟩ | ⟨hk, rfl⟩ | ⟨hk, rfl⟩ | ⟨hk, rfl⟩ | ⟨hk, rfl⟩ | ⟨hk, rfl⟩ | ⟨hk, rfl⟩
  · simp
  · simp
  · simp [hk]
  · simp [hk]
  · simp [hk]
  · simp [hk]
  · simp [hk]
  · simp [hk]
  · simp [hk, State.takePayload_devCrc]
  · simp [hk]

/-! ## The chunk in the buffer (R111, R250) -/

theorem Memory.slice_eq_map (m : List Host.Cell) (i n : Nat) :
    Memory.slice m i n = (List.range' i n).map (Memory.read m) := by
  induction n generalizing i with
  | zero => rfl
  | succ n ih => rw [Memory.slice, ih, List.range'_succ, List.map_cons]

/-- A byte written just past a slice makes it one longer. -/
theorem Memory.slice_write_next (m : List Host.Cell) (n : Nat) (v : Byte) (hwf : Memory.wf m = true) :
    Memory.slice (Memory.write m n v) 0 (n + 1) = Memory.slice m 0 n ++ [v] := by
  have hkept : ∀ k ∈ List.range' 0 n, Memory.read (Memory.write m n v) k = Memory.read m k := by
    intro k hk
    obtain ⟨-, hlt⟩ := List.mem_range'_1.mp hk
    exact Memory.read_write_other m n k v (by omega)
  simp only [Memory.slice_eq_map, List.range'_1_concat, List.map_append, List.map_congr_left hkept, Nat.zero_add,
    List.map_singleton, Memory.read_write_same m n v 0 hwf]

/-! ## WRITE of one chunk (R251, R313, R314) -/

/-- The first chunk of a WRITE starts with the bytes `img`, nothing has been sent, and the settle delay is to last
`delay` cycles (R156, R190, R250). -/
structure State.HoldsChunk (s : State) (img : List Byte) (delay : Nat) : Prop extends s.Pending .write where
  settleCycles : s.settleCycles = delay
  addr : s.addr = 0#32
  chunk : Memory.slice s.buf 0 img.length = img

/-- FILL has stored the bytes `img`, and goes on at the next index (R250). -/
structure State.FillingChunk (s : State) (img : List Byte) (delay : Nat) : Prop
    extends s.HoldsChunk img delay where
  ctrl : s.ctrl = .fill
  addrCarry : s.addrCarry = false
  bufWf : Memory.wf s.buf = true
  bufIdx : s.bufIdx.toNat = img.length

/-- The bytes `img` are the whole chunk, and the last one of the input (R250). -/
structure State.WritingChunk (s : State) (img : List Byte) (delay : Nat) : Prop
    extends s.HoldsChunk img delay where
  eoi : s.eoi = true
  chunkLen : s.chunkLen.toNat = img.length

/-- The cycle that accepts a WRITE starts to fill its first chunk (R154, R155). -/
theorem step_write_accepted {s : State} (hfire : s.cmdFire = true) (hl : s.legal = true)
    (hwf : Memory.wf s.buf = true) (hop : s.now.cmdOp = 7#4) :
    ∃ t, step s = .next t ∧ t.FillingChunk [] s.settleCycles ∧ t.inputs = s.inputs.tail ∧
      t.trace = s.trace ++ [.cmd s.now.cmdOp s.now.cmdCount] := by
  have hsel : Command.ofSelect s.now.cmdOp = some .write := by rw [hop]; rfl
  have hstep := step_accept hfire hsel
  rw [exec_accept _ hfire hl] at hstep
  have hpending : State.Pending (.tick (.beginWrite (s.acceptEffects Command.write.select 0#16))
      [.cmd s.now.cmdOp s.now.cmdCount]) .write := ⟨Command.ofSelect_select .write, rfl, rfl, rfl, rfl⟩
  exact ⟨_, hstep, ⟨⟨hpending, rfl, rfl, rfl⟩, rfl, rfl, hwf, rfl⟩, rfl, rfl⟩

/-- A FILL cycle takes the token offered to it. -/
theorem State.FillingChunk.step_eq {s : State} {img : List Byte} {delay : Nat} (h : s.FillingChunk img delay)
    (hr : s.now.rst = false) (he : s.now.srcErr = false) (hvalid : s.now.srcValid = true) :
    step s = .next (s.takeFill.tick [if s.now.srcEoi then .srcEoi else .src s.now.srcData]) :=
  step_of_exec (State.busy_eq_true.mpr (by simp [h.ctrl])) h.command fun _ hi =>
    exec_fill_taken hi hr h.legal h.ctrl he hvalid

/-- A data token adds its byte to a chunk with room for a further one (R250). -/
theorem State.FillingChunk.takeFill {s : State} {img : List Byte} {delay : Nat} (h : s.FillingChunk img delay)
    (hroom : img.length < 255) (hdata : s.now.srcEoi = false) (m : List Transfer) :
    (s.takeFill.tick m).FillingChunk (img ++ [s.now.srcData]) delay := by
  obtain ⟨htx, hchunk, -, hrsp, hrx⟩ := State.legal_iff.mp h.legal
  have hidx := h.bufIdx
  have hnext : (s.bufIdx + 1#9).toNat = img.length + 1 := by bv_omega
  have hindex : s.fillIndex = img.length := by rw [State.fillIndex_of_le (by omega), hidx]
  rw [State.takeFill_of_data hdata, if_pos (by omega)]
  exact
    { command := h.command
      legal := State.legal_iff.mpr ⟨htx, hchunk, by simp only [State.tick_bufIdx]; omega, hrsp, hrx⟩
      errCode := h.errCode
      cdoneActive := h.cdoneActive
      verifyOk := h.verifyOk
      settleCycles := h.settleCycles
      addr := h.addr
      chunk := by
        rw [List.length_append, List.length_singleton]
        simp [hindex, Memory.slice_write_next _ _ _ h.bufWf, h.chunk]
      ctrl := h.ctrl
      addrCarry := h.addrCarry
      bufWf := Memory.wf_write _ _ _ h.bufWf s.fillIndex_lt
      bufIdx := by simpa using hnext }

/-- Up to 255 data tokens are taken in order, one a cycle, and their bytes stored (R250). -/
theorem State.FillingChunk.run_fill {s : State} {img : List Byte} {delay : Nat} {script rest : List Inputs}
    (h : s.FillingChunk img delay) (hin : s.inputs = script ++ rest) (hroom : img.length + script.length ≤ 255)
    (hdata : ∀ n ∈ script, n.rst = false ∧ n.srcErr = false ∧ n.srcValid = true ∧ n.srcEoi = false) :
    ∃ t, Sys2Proof.core.run script.length s = .next t ∧
      t.FillingChunk (img ++ script.map Inputs.srcData) delay ∧ t.inputs = rest ∧
      t.trace = s.trace ++ script.map fun n => .src n.srcData := by
  induction script generalizing s img with
  | nil => exact ⟨s, rfl, by simpa using h, hin, by simp⟩
  | cons n script ih =>
    obtain rfl : s.now = n := State.now_eq hin
    obtain ⟨⟨hr, he, hvalid, heoi⟩, hdata⟩ := List.forall_mem_cons.mp hdata
    rw [List.length_cons] at hroom
    have hstep := h.step_eq hr he hvalid
    rw [heoi] at hstep
    obtain ⟨t, hrun, hfilling, hrest, htrace⟩ := ih (h.takeFill (by omega) heoi [.src s.now.srcData])
      (by simp [hin]) (by simp; omega) hdata
    exact ⟨t, (run_succ_of_step hstep).trans hrun, by simpa using hfilling, hrest, by simp [htrace]⟩

/-- End of input makes the bytes stored so far the whole chunk (R250). -/
theorem State.FillingChunk.step_endInput {s : State} {img : List Byte} {delay : Nat} (h : s.FillingChunk img delay)
    (hpos : 1 ≤ img.length) (hr : s.now.rst = false) (he : s.now.srcErr = false) (hvalid : s.now.srcValid = true)
    (heoi : s.now.srcEoi = true) :
    ∃ t, step s = .next t ∧ t.WritingChunk img delay ∧ t.ctrl = .txOp ∧ t.inputs = s.inputs.tail ∧
      t.trace = s.trace ++ [.srcEoi] := by
  obtain ⟨htx, -, hidx, hrsp, hrx⟩ := State.legal_iff.mp h.legal
  have hne : s.bufIdx ≠ 0#9 := by
    have := h.bufIdx
    bv_omega
  have hcarry : ¬s.endInput.addrCarry = true := by simp [h.addrCarry]
  have hstep := h.step_eq hr he hvalid
  rw [State.takeFill, if_pos heoi, if_pos heoi, if_neg hne, State.chunkReady, if_neg hcarry] at hstep
  have hlegal : State.legal { s.endInput with chunkLen := s.bufIdx, ctrl := .txOp } = true :=
    State.legal_iff.mpr ⟨htx, hidx, hidx, hrsp, hrx⟩
  exact ⟨_, hstep, ⟨⟨⟨h.command, hlegal, h.errCode, h.cdoneActive, h.verifyOk⟩, h.settleCycles, h.addr, h.chunk⟩,
    rfl, h.bufIdx⟩, rfl, rfl, rfl⟩

theorem State.WritingChunk.of_sameChunk {s t : State} {img : List Byte} {delay : Nat} (h : s.WritingChunk img delay)
    (hsame : s.SameChunk t) (hl : t.legal = true) : t.WritingChunk img delay where
  toPending := hsame.pending h.toPending hl
  settleCycles := hsame.settleCycles.trans h.settleCycles
  addr := hsame.addr.trans h.addr
  chunk := hsame.buf ▸ h.chunk
  eoi := hsame.eoi.trans h.eoi
  chunkLen := hsame.chunkLen ▸ h.chunkLen

/-- The frame of the chunk names address 0 and carries exactly its bytes (R111, R112). -/
theorem State.WritingChunk.frame_eq {s : State} {img : List Byte} {delay : Nat} (h : s.WritingChunk img delay) :
    s.frame .write = .write 0#32 (BitVec.ofNat 16 img.length) img := by
  have hlen : s.lenField .write = BitVec.ofNat 16 img.length := by
    have hcount := (State.lenField_toNat (s := s) (c := .write) (by decide)).trans h.chunkLen
    rw [← hcount, BitVec.ofNat_toNat, BitVec.setWidth_eq]
  rw [State.frame, h.addr, hlen, h.chunkLen, h.chunk]

/-- Where SETTLE is entered, its counter is loaded with the whole delay (R115, R156). -/
def State.SettlesInFull (s : State) : Prop :=
  s.ctrl = .settle → s.settleCnt = s.settleCycles

theorem State.Sending.afterTxByte_settlesInFull {s : State} {c : Command} (h : s.Sending c) (m : List Transfer) :
    ((s.afterTxByte c).tick m).SettlesInFull := by
  rcases h.tx with hk | hk | hk <;> simp only [State.SettlesInFull, State.afterTxByte, hk]
  · unfold State.afterOpcode
    split <;> simp
  · unfold State.afterHeaderByte
    split
    · split <;> simp
    · simp [hk]
  · unfold State.afterDataByte
    split <;> simp [hk]

/-- The frame of the chunk is sent, and the whole settle delay follows (R113 to R116). -/
theorem State.WritingChunk.run_frame {s : State} {img : List Byte} {delay : Nat} {tx rest : List Inputs}
    (h : s.WritingChunk img delay) (hk : s.ctrl = .txOp) (hpos : 1 ≤ img.length) (hin : s.inputs = tx ++ rest)
    (hlen : tx.length = img.length + 7) (hready : ∀ n ∈ tx, n.rst = false ∧ n.chErr = false ∧ n.txReady = true) :
    ∃ t, Sys2Proof.core.run tx.length s = .next t ∧ t.WritingChunk img delay ∧ t.ctrl = .settle ∧
      t.settleCnt = delay ∧ t.inputs = rest ∧
      t.trace = s.trace ++ (encode (.write 0#32 (BitVec.ofNat 16 img.length) img)).map Transfer.tx := by
  have hchunk : 1 ≤ s.chunkLen.toNat := h.chunkLen.symm ▸ hpos
  have hsending : s.Sending .write := ⟨h.command, h.legal, .inl hk, by rw [hk]; rfl, fun _ => hchunk, by simp [hk]⟩
  have hlen' : tx.length = (encode (s.frame .write)).length := by
    rw [s.length_encode_frame (by decide), if_pos rfl, h.chunkLen, hlen, Nat.add_comm]
  have hall : s.txPos + tx.length = (encode (s.frame .write)).length := by
    rw [State.txPos, hk, Nat.zero_add, hlen']
  obtain ⟨t, hrun, htrace, hctrl, hrest⟩ :=
    frameSentIsItsEncoding s .write tx rest hk h.command h.legal (fun _ => hchunk) hin hlen' hready
  have hwriting := hsending.run_keeps (P := (State.WritingChunk · img delay))
    (fun u m hu hwriting => hwriting.of_sameChunk (u.afterTxByte_sameChunk .write m) hu.afterTxByte_legal)
    hin hall hready hrun h
  have hsettle := hsending.run_keeps (P := State.SettlesInFull) (fun u m hu _ => hu.afterTxByte_settlesInFull m)
    hin hall hready hrun (by simp [State.SettlesInFull, hk])
  exact ⟨t, hrun, hwriting, hctrl, (hsettle hctrl).trans hwriting.settleCycles, hrest, h.frame_eq ▸ htrace⟩

/-- The settle delay passes and leaves everything else as it is (R156). -/
theorem State.WritingChunk.run_settle {s : State} {img : List Byte} {delay : Nat} {quiet rest : List Inputs}
    (h : s.WritingChunk img delay) (hk : s.ctrl = .settle) (hcnt : s.settleCnt = quiet.length)
    (hpos : 1 ≤ quiet.length) (hin : s.inputs = quiet ++ rest) (hquiet : ∀ n ∈ quiet, n.rst = false) :
    ∃ t, Sys2Proof.core.run quiet.length s = .next t ∧ t.WritingChunk img delay ∧ t.ctrl = .rxLen ∧
      t.inputs = rest ∧ t.trace = s.trace := by
  have hrun := settleLastsItsCount s quiet rest hk h.command h.legal hin hquiet hcnt.ge hpos
  exact ⟨_, hrun, h.of_sameChunk (by constructor <;> rfl) h.legal, if_pos hcnt.symm, rfl, rfl⟩

/-- The one-byte answer is received, and the check follows (R131, R134). -/
theorem State.WritingChunk.run_response {s : State} {img : List Byte} {delay : Nat} {nk np : Inputs}
    {rest : List Inputs} (h : s.WritingChunk img delay) (hk : s.ctrl = .rxLen) (hin : s.inputs = nk :: np :: rest)
    (hquiet : ∀ n ∈ [nk, np], n.rst = false ∧ n.chErr = false ∧ n.rxValid = true) (hbyte : nk.rxData = 1#8) :
    ∃ t, Sys2Proof.core.run 2 s = .next t ∧ t.WritingChunk img delay ∧ t.ctrl = .check ∧ t.rspB0 = np.rxData ∧
      t.inputs = rest ∧ t.trace = s.trace ++ [.rx 1#8, .rx np.rxData] := by
  simp only [List.forall_mem_cons] at hquiet
  obtain ⟨⟨hrk, hek, hvk⟩, ⟨hrp, hep, hvp⟩, -⟩ := hquiet
  obtain rfl : s.now = nk := State.now_eq hin
  have hok : s.lenOk .write s.now.rxData = true := by rw [hbyte]; rfl
  have hstep : step s = .next ((s.takeLength .write).tick [.rx s.now.rxData]) :=
    step_of_exec (State.busy_eq_true.mpr (by simp [hk])) h.command fun i hi =>
      hi ▸ exec_length_taken hrk h.legal hk hek hvk
  have hrecv := h.takeLength hok [.rx s.now.rxData]
  have hwriting := h.of_sameChunk (State.takeLength_sameChunk hok _) hrecv.legal
  have hfirst : (s.takeLength .write).rxCnt = 0#9 := by rw [State.takeLength_rxCnt, if_pos hok]
  have hone : (s.pcount .write s.now.rxData).toNat = 1 := by rw [hbyte]; rfl
  rw [hone] at hrecv
  have hin' : ((s.takeLength .write).tick [.rx s.now.rxData]).inputs = np :: rest := by simp [hin]
  have hstep' := hrecv.step_eq (State.now_eq hin' ▸ ⟨hrp, hep, hvp, nofun, by simp⟩)
  have hend := hrecv.takePayload (payloadTransfers .write np.rxData)
  rw [State.now_eq hin'] at hstep'
  refine ⟨_, (run_succ_of_step hstep).trans (run_succ_of_step hstep'),
    hwriting.of_sameChunk (State.takePayload_sameChunk _ .write _) hend.legal, hend.ctrl, ?_, ?_, ?_⟩
  · rw [State.tick_rspB0, State.takePayload_rspB0, State.tick_rxCnt, if_pos hfirst, State.now_eq hin']
  · simp [hin]
  · simp [payloadTransfers, hbyte]

/-- The check ends the WRITE: with success and past the chunk for the answer 'O', with PROTOCOL at address 0 for any
other (R157, R192, R251). -/
theorem State.WritingChunk.step_check {s : State} {img : List Byte} {delay : Nat} (h : s.WritingChunk img delay)
    (hk : s.ctrl = .check) (hr : s.now.rst = false) :
    ∃ t, step s = .next t ∧ t.ctrl = .done ∧ t.eoi = true ∧
      (s.rspB0 = markerOk → t.errCode = .none ∧ t.addr.toNat = img.length) ∧
      (s.rspB0 ≠ markerOk → t.errCode = .protocol ∧ t.addr = 0#32) ∧
      t.inputs = s.inputs.tail ∧ t.trace = s.trace := by
  have hstep : step s = .next (s.checkWrite.tick []) :=
    step_of_exec (State.busy_eq_true.mpr (by simp [hk])) h.command fun i hi => by
      rw [exec_check hr h.legal hk (by simp [hi]), hi]
      rfl
  have hsum : s.advanceSum = img.length := by rw [State.advanceSum, h.addr, h.chunkLen, BitVec.toNat_zero, Nat.zero_add]
  have haddr : (BitVec.ofNat 32 s.advanceSum).toNat = img.length := by
    rw [hsum, ← h.chunkLen, BitVec.toNat_ofNat, Nat.mod_eq_of_lt (s.chunkLen.isLt.trans (by decide))]
  refine ⟨_, hstep, ?_, by simp [h.eoi], fun hok => ?_, fun hbad => ?_, by simp, by simp⟩
  · by_cases hok : s.rspB0 = markerOk <;> simp [State.checkWrite, hok, h.eoi]
  · simpa [State.checkWrite_eq hok, h.errCode] using haddr
  · simp [State.checkWrite, hbad, h.addr]

/-- Settles O50: one cycle accepts the command, one takes each token, one sends each byte of the frame, the settle delay
passes, two take the answer, and one checks it. -/
theorem writeOfOneChunkCompletes : Obligations.WriteOfOneChunkCompletes := by
  intro s n₀ ne nk np nc img tx quiet rest hb hl hwf hin hcalm hvalid hop hpos hle hdata hevalid heoi htx hready hqpos
    hqlen hquiet hkvalid hlength hpvalid
  simp only [List.forall_mem_cons, List.forall_mem_append] at hcalm
  obtain ⟨⟨hr₀, -⟩, ⟨hre, -, hee⟩, ⟨hrk, hek, -⟩, ⟨hrp, hep, -⟩, ⟨hrc, -⟩, hcimg, hctx⟩ := hcalm
  obtain rfl : s.now = n₀ := State.now_eq hin
  obtain ⟨s₁, hstep₁, hfilling₁, hin₁, htrace₁⟩ :=
    step_write_accepted (State.cmdFire_eq_true.mpr ⟨hvalid, hr₀, hb⟩) hl hwf hop
  rw [hin, List.tail_cons] at hin₁
  obtain ⟨s₂, hrun₂, hfilling₂, hin₂, htrace₂⟩ := hfilling₁.run_fill hin₁ (by simpa using hle) fun m hm =>
    ⟨(hcimg m hm).1, (hcimg m hm).2.2, hdata m hm⟩
  rw [List.nil_append] at hfilling₂
  obtain rfl : s₂.now = ne := State.now_eq hin₂
  obtain ⟨s₃, hstep₃, hwriting₃, hk₃, hin₃, htrace₃⟩ :=
    hfilling₂.step_endInput (by simpa using hpos) hre hee hevalid heoi
  rw [hin₂, List.tail_cons] at hin₃
  obtain ⟨s₄, hrun₄, hwriting₄, hk₄, hcnt₄, hin₄, htrace₄⟩ :=
    hwriting₃.run_frame hk₃ (by simpa using hpos) hin₃ (by simpa using htx) fun m hm =>
      ⟨(hctx m hm).1, (hctx m hm).2.1, hready m hm⟩
  obtain ⟨s₅, hrun₅, hwriting₅, hk₅, hin₅, htrace₅⟩ :=
    hwriting₄.run_settle hk₄ (hcnt₄.trans hqlen.symm) hqpos hin₄ hquiet
  obtain ⟨s₆, hrun₆, hwriting₆, hk₆, hb0₆, hin₆, htrace₆⟩ :=
    hwriting₅.run_response hk₅ hin₅ (by simp [hrk, hek, hkvalid, hrp, hep, hpvalid]) hlength
  obtain ⟨t, hstep₇, hdone, heoi₇, hok, hbad, hin₇, htrace₇⟩ := hwriting₆.step_check hk₆ (State.now_eq hin₆ ▸ hrc)
  rw [hb0₆, List.length_map] at hok
  rw [hb0₆] at hbad
  have hcycles : 2 * img.length + s.settleCycles + 12 = 1 + 2 + quiet.length + tx.length + 1 + img.length + 1 := by
    omega
  have hrun : Sys2Proof.core.run (2 * img.length + s.settleCycles + 12) s = .next t := by
    rw [hcycles, run_succ_of_step hstep₁, run_add hrun₂, run_succ_of_step hstep₃, run_add hrun₄, run_add hrun₅,
      run_add hrun₆, run_succ_of_step hstep₇, run_zero]
  refine ⟨t, hrun, hdone, heoi₇, fun hm => (hok hm).imp_left (congrArg ErrKind.code),
    fun hm => (hbad hm).imp_left (congrArg ErrKind.code), by rw [hin₇, hin₆, List.tail_cons], ?_⟩
  rw [htrace₇, htrace₆, htrace₅, htrace₄, htrace₃, htrace₂, htrace₁, List.length_map]

end Sys2Proof.Machine
end

section
/-! PROOFS of the statements of 48_verify.md: what VERIFY leaves unchanged (R260, R262), and a VERIFY of an image from
acceptance to DONE (R260, R261, R313, R314). -/

namespace Sys2Proof.Machine

/-! ## What a cycle of VERIFY leaves unchanged (R30 to R48, R260, R262) -/

/-- The busy states of VERIFY (R260). -/
theorem State.ctrl_of_verifyPath {s : State} (hb : s.busy = true) (hpath : onPath .verify s.ctrl = true) :
    s.ctrl = .txOp ∨ s.ctrl = .txHdr ∨ s.ctrl = .rxLen ∨ s.ctrl = .rxPay ∨ s.ctrl = .check ∨ s.ctrl = .crcRun := by
  cases hk : s.ctrl with
  | idle | done => simp [State.busy, hk] at hb
  | txOp | txHdr | rxLen | rxPay | check | crcRun => simp
  | txData | settle | fill => simp [onPath, hk] at hpath

/-- What a busy cycle of VERIFY can do: raise an error, hold, act on the transfer of its state, or check (R113, R114,
R131, R134, R204, R260). -/
theorem State.verifyCycle_cases {s t : State} {count : Len} {begin : State → State} (hb : s.busy = true)
    (hpath : onPath .verify s.ctrl = true) (h : s.commandCycle .verify count begin State.checkVerify = t) :
    (∃ e, t = s.raise e) ∨ t = s ∨ (s.ctrl = .txOp ∧ t = s.afterOpcode .verify) ∨
      (s.ctrl = .txHdr ∧ t = s.afterHeaderByte .verify) ∨ (s.ctrl = .rxLen ∧ t = s.takeLength .verify) ∨
      (s.ctrl = .rxPay ∧ t = s.takePayload .verify) ∨ (s.ctrl = .check ∧ t = s.checkVerify) ∨
      (s.ctrl = .crcRun ∧ t = s.takeCrc) := by
  subst h
  rcases State.ctrl_of_verifyPath hb hpath with hk | hk | hk | hk | hk | hk
  · simpa [State.commandCycle, hk] using s.onTransfer_outcomes (s.afterOpcode .verify) .verify (s.txFire .verify)
  · simpa [State.commandCycle, hk] using s.onTransfer_outcomes (s.afterHeaderByte .verify) .verify (s.txFire .verify)
  · simpa [State.commandCycle, hk] using s.onTransfer_outcomes (s.takeLength .verify) .verify (s.rxFire .verify)
  · simpa [State.commandCycle, hk] using s.onTransfer_outcomes (s.takePayload .verify) .verify (s.rxFire .verify)
  · simp [State.commandCycle, hk]
  · simpa [State.commandCycle, hk] using s.onTransfer_outcomes s.takeCrc .verify (s.srcFire .verify)

/-- VERIFY writes no byte of the chunk buffer and not the parameter, in any cycle (R262). -/
theorem exec_verify_keeps_buf {a : Word} {n : Len} {s t : State} (h : exec (.verify a n) s = .next t) :
    t.buf = s.buf ∧ t.settleCycles = s.settleCycles := by
  cases hb : s.busy with
  | false => exact exec_waiting_keeps_buf hb h
  | true =>
    rcases exec_next h with ⟨-, rfl⟩ | ⟨⟨-, hstop⟩, rfl⟩
    · exact ⟨rfl, rfl⟩
    · obtain ⟨-, hpath, -⟩ := State.stop_eq_none.mp hstop
      generalize hcycle : s.commandCycle _ _ _ _ = u
      rcases State.verifyCycle_cases hb hpath hcycle with
        ⟨e, rfl⟩ | rfl | ⟨-, rfl⟩ | ⟨-, rfl⟩ | ⟨-, rfl⟩ | ⟨-, rfl⟩ | ⟨-, rfl⟩ | ⟨-, rfl⟩ <;> simp

/-- Settles O56: each thing a busy cycle of VERIFY can do leaves these registers alone. -/
theorem verifyFrame : Obligations.VerifyFrame := by
  intro a n s t h
  obtain ⟨hbuf, hsettle⟩ := exec_verify_keeps_buf h
  refine ⟨fun k => by rw [hbuf], hsettle, fun hr hb => ?_⟩
  rcases exec_next h with ⟨hreset, -⟩ | ⟨⟨-, hstop⟩, rfl⟩
  · simp [hr] at hreset
  obtain ⟨-, hpath, -⟩ := State.stop_eq_none.mp hstop
  generalize hcycle : s.commandCycle _ _ _ _ = u
  rcases State.verifyCycle_cases hb hpath hcycle with
    ⟨e, rfl⟩ | rfl | ⟨hk, rfl⟩ | ⟨hk, rfl⟩ | ⟨hk, rfl⟩ | ⟨hk, rfl⟩ | ⟨hk, rfl⟩ | ⟨hk, rfl⟩
  · simp
  · simp
  · simp [hk]
  · simp [hk, State.afterHeaderByte_bufIdx]
  · simp [hk]
  · simp [hk]
  · simp [hk]
  · simp [hk]

/-! ## VERIFY of an image (R260, R261, R313, R314) -/

/-- A VERIFY with count `n` is in progress, and `crc` is what the image has made of the accumulator so far (R202,
R260). -/
structure State.Verifying (s : State) (n : Len) (crc : Word) : Prop extends s.Pending .verify where
  addr : s.addr = 0#32
  remaining : s.remaining = n
  crc : s.crc = crc

theorem State.Verifying.of_sameChunk {s t : State} {n : Len} {crc : Word} (h : s.Verifying n crc)
    (hsame : s.SameChunk t) (hl : t.legal = true) (hcrc : t.crc = s.crc) : t.Verifying n crc where
  toPending := hsame.pending h.toPending hl
  addr := hsame.addr.trans h.addr
  remaining := hsame.remaining.trans h.remaining
  crc := hcrc.trans h.crc

/-- The frame names address 0 and the caller's count (R111, R112, R260). -/
theorem State.Verifying.frame_eq {s : State} {n : Len} {crc : Word} (h : s.Verifying n crc) :
    s.frame .verify = .verify 0#32 n := by
  rw [State.frame, h.addr, State.lenField, if_pos rfl, h.remaining]

/-- The cycle that accepts a VERIFY keeps the count and starts the CRC over the image (R154, R155, R202). -/
theorem step_verify_accepted {s : State} (hfire : s.cmdFire = true) (hl : s.legal = true)
    (hop : s.now.cmdOp = 8#4) :
    ∃ t, step s = .next t ∧ t.Verifying s.now.cmdCount crcInit ∧ t.ctrl = .crcRun ∧ t.inputs = s.inputs.tail ∧
      t.trace = s.trace ++ [.cmd s.now.cmdOp s.now.cmdCount] := by
  have hsel : Command.ofSelect s.now.cmdOp = some .verify := by rw [hop]; rfl
  have hstep := step_accept hfire hsel
  rw [exec_accept _ hfire hl] at hstep
  exact ⟨_, hstep, ⟨⟨Command.ofSelect_select .verify, rfl, rfl, rfl, rfl⟩, rfl, rfl, rfl⟩, rfl, rfl, rfl⟩

/-- The image is consumed up to its end, and the frame comes next (R204). -/
theorem State.Verifying.run_image {s : State} {n : Len} {crc : Word} {img rest : List Inputs} {ne : Inputs}
    (h : s.Verifying n crc) (hk : s.ctrl = .crcRun) (hin : s.inputs = img ++ ne :: rest)
    (himg : ∀ m ∈ img, m.rst = false ∧ m.srcErr = false ∧ m.srcValid = true ∧ m.srcEoi = false)
    (hr : ne.rst = false) (he : ne.srcErr = false) (hvalid : ne.srcValid = true) (heoi : ne.srcEoi = true) :
    ∃ t, Sys2Proof.core.run (img.length + 1) s = .next t ∧
      t.Verifying n ((img.map Inputs.srcData).foldl crcStep crc) ∧ t.ctrl = .txOp ∧ t.inputs = rest ∧
      t.trace = s.trace ++ img.map (fun m => .src m.srcData) ++ [.srcEoi] := by
  have hrun := crcRunConsumesTheImage s img rest ne hk h.command h.legal hin himg hr he hvalid heoi
  rw [h.crc] at hrun
  exact ⟨_, hrun, ⟨⟨h.command, h.legal, h.errCode, h.cdoneActive, h.verifyOk⟩, h.addr, h.remaining, rfl⟩, rfl, rfl,
    rfl⟩

/-- No TX rule writes the accumulator. -/
theorem State.afterTxByte_crc (s : State) (c : Command) : (s.afterTxByte c).crc = s.crc := by
  unfold State.afterTxByte
  split <;> simp

/-- The seven bytes of the frame are sent (R113, R114, R116). -/
theorem State.Verifying.run_frame {s : State} {n : Len} {crc : Word} {tx rest : List Inputs}
    (h : s.Verifying n crc) (hk : s.ctrl = .txOp) (hin : s.inputs = tx ++ rest) (hlen : tx.length = 7)
    (hready : ∀ m ∈ tx, m.rst = false ∧ m.chErr = false ∧ m.txReady = true) :
    ∃ t, Sys2Proof.core.run 7 s = .next t ∧ t.Verifying n crc ∧ t.ctrl = .rxLen ∧ t.inputs = rest ∧
      t.trace = s.trace ++ (encode (.verify 0#32 n)).map Transfer.tx := by
  have hsending : s.Sending .verify := ⟨h.command, h.legal, .inl hk, by rw [hk]; rfl, nofun, by simp [hk]⟩
  have hpos : s.txPos = 0 := by rw [State.txPos, hk]
  have hlen' : tx.length = (encode (s.frame .verify)).length := by rw [hlen, h.frame_eq]; rfl
  obtain ⟨t, hrun, htrace, hctrl, hrest⟩ :=
    frameSentIsItsEncoding s .verify tx rest hk h.command h.legal nofun hin hlen' hready
  have hverifying := hsending.run_keeps (P := (State.Verifying · n crc))
    (fun u m hu hverifying => hverifying.of_sameChunk (u.afterTxByte_sameChunk .verify m) hu.afterTxByte_legal
      (u.afterTxByte_crc .verify))
    hin (by rw [hpos, Nat.zero_add, hlen']) hready hrun h
  exact ⟨t, hlen ▸ hrun, hverifying, hctrl, hrest, h.frame_eq ▸ htrace⟩

/-- The length byte and the four bytes of the device's digest are taken, and the check follows (R88, R131, R136). -/
theorem State.Verifying.run_response {s : State} {n : Len} {crc : Word} {nk p₀ p₁ p₂ p₃ : Inputs}
    {rest : List Inputs} (h : s.Verifying n crc) (hk : s.ctrl = .rxLen)
    (hin : s.inputs = nk :: p₀ :: p₁ :: p₂ :: p₃ :: rest)
    (hquiet : ∀ m ∈ [nk, p₀, p₁, p₂, p₃], m.rst = false ∧ m.chErr = false ∧ m.rxValid = true)
    (hbyte : nk.rxData = 4#8) :
    ∃ t, Sys2Proof.core.run 5 s = .next t ∧ t.Verifying n crc ∧ t.ctrl = .check ∧
      t.devCrc.toNat = p₀.rxData.toNat * 2 ^ 24 + p₁.rxData.toNat * 2 ^ 16 + p₂.rxData.toNat * 2 ^ 8
        + p₃.rxData.toNat ∧
      t.inputs = rest ∧
      t.trace = s.trace ++ [.rx 4#8, .rx p₀.rxData, .rx p₁.rxData, .rx p₂.rxData, .rx p₃.rxData] := by
  obtain rfl : s.now = nk := State.now_eq hin
  obtain ⟨⟨hrk, hek, hvk⟩, hpay⟩ := List.forall_mem_cons.mp hquiet
  have hok : s.lenOk .verify s.now.rxData = true := by rw [hbyte]; rfl
  have hlen : s.pcount .verify s.now.rxData = 4#9 := by rw [hbyte]; rfl
  have hstep : step s = .next ((s.takeLength .verify).tick [.rx s.now.rxData]) :=
    step_of_exec (State.busy_eq_true.mpr (by simp [hk])) h.command fun i hi =>
      hi ▸ exec_length_taken hrk h.legal hk hek hvk
  have hrecv := h.takeLength hok [.rx s.now.rxData]
  rw [hlen] at hrecv
  have hverifying := h.of_sameChunk (State.takeLength_sameChunk hok _) hrecv.legal (by simp)
  have hin' : ((s.takeLength .verify).tick [.rx s.now.rxData]).inputs = [p₀, p₁, p₂, p₃] ++ rest := by simp [hin]
  have hmoves : ∀ m ∈ [p₀, p₁, p₂, p₃], MovesPayload m .verify := fun m hm => by
    obtain ⟨hr, he, hvalid⟩ := hpay m hm
    exact ⟨hr, he, hvalid, nofun, by simp⟩
  obtain ⟨t, hrun, hend, -, hrest, htrace⟩ := hrecv.run_payload (script := [p₀, p₁, p₂, p₃]) hin' hmoves
  have hverifying' := hrecv.run_keeps (P := (State.Verifying · n crc)) (script := [p₀, p₁, p₂, p₃])
    (fun u m _ hu hverifying => hverifying.of_sameChunk (u.takePayload_sameChunk .verify m) (hu.takePayload m).legal
      (by simp))
    hin' hmoves hrun hverifying
  obtain ⟨u, hrun', -, -, hdigest⟩ := digestAssembledBigEndian _ p₀ p₁ p₂ p₃ rest hrecv.ctrl hrecv.command hrecv.legal
    (by simp [State.takeLength_rxCnt, hok]) (by simp [State.takeLength_rspLen, hok, hlen]) hin' hpay
  obtain rfl : t = u := Host.Outcome.next.inj (hrun.symm.trans hrun')
  exact ⟨t, (run_succ_of_step hstep).trans hrun, hverifying', hend.ctrl, hdigest, hrest,
    by simpa [payloadTransfers, hbyte] using htrace⟩

/-- The check ends the VERIFY: verified where the digests are equal, and with MISMATCH otherwise (R157, R260). -/
theorem State.Verifying.step_check {s : State} {n : Len} {crc : Word} (h : s.Verifying n crc) (hk : s.ctrl = .check)
    (hr : s.now.rst = false) :
    ∃ t, step s = .next t ∧ t.ctrl = .done ∧ t.devCrc = s.devCrc ∧ t.digest = crc ^^^ 0xFFFFFFFF#32 ∧
      (s.devCrc = crc ^^^ 0xFFFFFFFF#32 → t.verifyOk = true ∧ t.errCode = .none) ∧
      (s.devCrc ≠ crc ^^^ 0xFFFFFFFF#32 → t.verifyOk = false ∧ t.errCode = .mismatch) ∧
      t.inputs = s.inputs.tail ∧ t.trace = s.trace := by
  have hstep : step s = .next (s.checkVerify.tick []) :=
    step_of_exec (State.busy_eq_true.mpr (by simp [hk])) h.command fun i hi => by
      rw [exec_check hr h.legal hk (by simp [hi]), hi]
      rfl
  have hdigest : s.digest = crc ^^^ 0xFFFFFFFF#32 := by rw [State.digest, h.crc]; rfl
  refine ⟨_, hstep, ?_, by simp, ?_, fun heq => ?_, fun hne => ?_, by simp, by simp⟩
  · rw [State.checkVerify]
    split <;> rfl
  · simpa [State.digest] using hdigest
  · rw [State.checkVerify, if_pos (heq.trans hdigest.symm)]
    exact ⟨rfl, h.errCode⟩
  · rw [State.checkVerify, if_neg (hdigest ▸ hne)]
    exact ⟨h.verifyOk, rfl⟩

/-- Settles O51: one cycle accepts the command, one takes each token of the image, seven send the frame, five take the
answer, and one compares the digests. -/
theorem verifyOfAnImageCompletes : Obligations.VerifyOfAnImageCompletes := by
  intro s n₀ ne nk p₀ p₁ p₂ p₃ nc img tx rest hb hl hin hcalm hvalid hop hdata hevalid heoi htx hready hkvalid hlength
    hpvalid
  simp only [List.forall_mem_cons, List.forall_mem_append] at hcalm hpvalid
  obtain ⟨⟨hr₀, -⟩, ⟨hre, -, hee⟩, ⟨hrk, hek, -⟩, ⟨hp₀, he₀, -⟩, ⟨hp₁, he₁, -⟩, ⟨hp₂, he₂, -⟩, ⟨hp₃, he₃, -⟩,
    ⟨hrc, -⟩, hcimg, hctx⟩ := hcalm
  obtain rfl : s.now = n₀ := State.now_eq hin
  obtain ⟨s₁, hstep₁, hverifying₁, hk₁, hin₁, htrace₁⟩ :=
    step_verify_accepted (State.cmdFire_eq_true.mpr ⟨hvalid, hr₀, hb⟩) hl hop
  rw [hin, List.tail_cons] at hin₁
  obtain ⟨s₂, hrun₂, hverifying₂, hk₂, hin₂, htrace₂⟩ := hverifying₁.run_image hk₁ hin₁
    (fun m hm => ⟨(hcimg m hm).1, (hcimg m hm).2.2, hdata m hm⟩) hre hee hevalid heoi
  obtain ⟨s₃, hrun₃, hverifying₃, hk₃, hin₃, htrace₃⟩ := hverifying₂.run_frame hk₂ hin₂ htx fun m hm =>
    ⟨(hctx m hm).1, (hctx m hm).2.1, hready m hm⟩
  obtain ⟨s₄, hrun₄, hverifying₄, hk₄, hanswer, hin₄, htrace₄⟩ :=
    hverifying₃.run_response hk₃ hin₃
      (by simp [hrk, hek, hkvalid, hp₀, he₀, hp₁, he₁, hp₂, he₂, hp₃, he₃, hpvalid]) hlength
  obtain ⟨t, hstep₅, hdone, hdev, hdigest, hok, hbad, hin₅, htrace₅⟩ :=
    hverifying₄.step_check hk₄ (State.now_eq hin₄ ▸ hrc)
  have hrun : Sys2Proof.core.run (img.length + 15) s = .next t := by
    rw [run_succ_of_step hstep₁, show img.length + 14 = 1 + 5 + 7 + (img.length + 1) by omega, run_add hrun₂,
      run_add hrun₃, run_add hrun₄, run_succ_of_step hstep₅, run_zero]
  refine ⟨t, hrun, hdone, hdev ▸ hanswer, hdigest, fun heq => ?_, fun hne => ?_,
    by rw [hin₅, hin₄, List.tail_cons], by rw [htrace₅, htrace₄, htrace₃, htrace₂, htrace₁]⟩
  · exact (hok (BitVec.eq_of_toNat_eq (hanswer.trans heq))).imp_right (congrArg ErrKind.code)
  · exact (hbad fun heq => hne (hanswer ▸ congrArg BitVec.toNat heq)).imp_right (congrArg ErrKind.code)

end Sys2Proof.Machine
end

section
/-! PROOFS of the statements of 60_exceptions.md: each error code comes from its own rule (R272 to R275, R277, R278). -/

namespace Sys2Proof.Machine

/-! ## The rules of the error codes -/

/-- The condition of the rule that sets an error code, as the registers and inputs of the cycle meet it (R272 to R275,
R277, R278). -/
def State.MeetsRuleOf (s : State) : ErrKind → Prop
  | .none => True
  | .transport => s.now.chErr = true ∧ s.ctrl ∈ [.txOp, .txHdr, .txData, .rxLen, .rxPay]
  | .protocol =>
    (s.ctrl = .rxLen ∧ s.now.chErr = false ∧ s.now.rxValid = true ∧
      ((s.command ∈ [some .halt, some .start, some .cdone, some .erase, some .write] ∧ s.now.rxData.toNat ≠ 1) ∨
        (s.command = some .verify ∧ s.now.rxData.toNat ≠ 4) ∨
        (s.command = some .read ∧ s.now.rxData.toNat ≠ s.chunkLen.toNat % 256))) ∨
    (s.ctrl = .check ∧
      ((s.command = some .halt ∧ s.rspB0.toNat ≠ 0x52) ∨ (s.command = some .start ∧ s.rspB0.toNat ≠ 0x72) ∨
        (s.command = some .cdone ∧ s.rspB0.toNat ∉ [0x63, 0x43]) ∨
        (s.command ∈ [some .erase, some .write] ∧ s.rspB0.toNat ≠ 0x4F)))
  | .mismatch => s.ctrl = .check ∧ s.command = some .verify ∧ s.devCrc ≠ s.crc ^^^ 0xFFFFFFFF#32
  | .localIo =>
    (s.ctrl = .fill ∧ s.command = some .write ∧ s.now.srcErr = true) ∨
      (s.ctrl = .crcRun ∧ s.command = some .verify ∧ s.now.srcErr = true) ∨
      (s.ctrl = .rxPay ∧ s.command = some .read ∧ s.now.snkErr = true ∧ s.now.chErr = false)
  | .addrOverflow =>
    s.ctrl = .fill ∧ s.command = some .write ∧ s.addrCarry = true ∧ s.now.srcErr = false ∧
      s.srcFire .write = true ∧ s.now.srcValid = true ∧
      ((s.now.srcEoi = false ∧ s.bufIdx.toNat + 1 = 256) ∨ (s.now.srcEoi = true ∧ 0 < s.bufIdx.toNat))
  | .badOp => s.cmdFire = true ∧ 9 ≤ s.now.cmdOp.toNat

/-- From `s` to `t` the error code is kept, or set by its own rule. -/
def State.KeepsOrSetsByRule (s t : State) : Prop :=
  t.errCode = s.errCode ∨ s.MeetsRuleOf t.errCode

/-! ## The rule of each cycle -/

/-- Only TRANSPORT and LOCAL_IO are sampled (R152). -/
theorem State.transport_or_localIo_of_sampledErr {s : State} {c : Command} {e : ErrKind}
    (h : s.sampledErr c = some e) : e = .transport ∨ e = .localIo := by
  unfold State.sampledErr at h
  cases hk : s.ctrl with
  | idle | done | settle | check => simp [hk] at h
  | txOp | txHdr | txData | rxLen =>
    obtain ⟨-, rfl⟩ : s.now.chErr = true ∧ e = .transport := by simpa [hk] using h.symm
    exact .inl rfl
  | fill | crcRun =>
    obtain ⟨-, rfl⟩ : s.now.srcErr = true ∧ e = .localIo := by simpa [hk] using h.symm
    exact .inr rfl
  | rxPay =>
    simp only [hk] at h
    split at h
    next => exact .inl (by simpa using h.symm)
    next =>
      obtain ⟨-, rfl⟩ : (c = .read ∧ s.now.snkErr = true) ∧ e = .localIo := by simpa using h.symm
      exact .inr rfl

/-- A non-empty chunk made ready past the address space is ADDR_OVERFLOW (R195, R250, R277). -/
theorem State.keepsOrSetsByRule_takeFill {s : State} (hc : s.command = some .write) (hk : s.ctrl = .fill)
    (he : s.now.srcErr = false) (hfire : s.srcFire .write = true) : s.KeepsOrSetsByRule s.takeFill := by
  obtain ⟨-, hvalid⟩ := State.srcFire_eq_true hfire
  have overflow (hcarry : s.addrCarry = true)
      (hready : (s.now.srcEoi = false ∧ s.bufIdx.toNat + 1 = 256) ∨ (s.now.srcEoi = true ∧ 0 < s.bufIdx.toNat)) :
      s.MeetsRuleOf .addrOverflow := ⟨hk, hc, hcarry, he, hfire, hvalid, hready⟩
  unfold State.takeFill State.chunkReady
  split
  next heoi =>
    split
    next => exact .inl rfl
    next hne =>
      split
      next hcarry => exact .inr (overflow hcarry (.inr ⟨heoi, by bv_omega⟩))
      next => exact .inl rfl
  next heoi =>
    split
    next hfull =>
      split
      next hcarry => exact .inr (overflow hcarry (.inl ⟨by simpa using heoi, hfull⟩))
      next => exact .inl rfl
    next => exact .inl rfl

section command

variable {s : State} {c : Command} (hc : s.command = some c)
include hc

/-- A sampled error is TRANSPORT or LOCAL_IO, each under its own rule (R152, R272, R275). -/
theorem State.meetsRuleOf_sampledErr {e : ErrKind} (hpath : onPath c s.ctrl = true) (h : s.sampledErr c = some e) :
    s.MeetsRuleOf e := by
  obtain ⟨htransport, hlocal, -⟩ := sampledErrorsByState s c
  obtain rfl | rfl := State.transport_or_localIo_of_sampledErr h
  · exact htransport.mp h
  · rcases hlocal.mp h with ⟨hk, he⟩ | ⟨hk, rfl, he, hch⟩
    · simp only [List.mem_cons, List.not_mem_nil, or_false] at hk
      rcases hk with hk | hk
      · obtain rfl : c = .write := by simpa [hk, onPath] using hpath
        exact .inl ⟨hk, hc, he⟩
      · obtain rfl : c = .verify := by simpa [hk, onPath] using hpath
        exact .inr (.inl ⟨hk, hc, he⟩)
    · exact .inr (.inr ⟨hk, hc, he, hch⟩)

/-- A cycle that waits on a transfer sets a code by the rule of a sampled error, or as its action does. -/
theorem State.keepsOrSetsByRule_onTransfer {act : State} {fire : Bool} (hpath : onPath c s.ctrl = true)
    (hact : s.sampledErr c = none → fire = true → s.KeepsOrSetsByRule act) :
    s.KeepsOrSetsByRule (s.onTransfer c fire act) := by
  rcases s.onTransfer_cases act c fire with ⟨e, he, heq⟩ | ⟨he, hfire, heq⟩ | ⟨-, -, heq⟩ <;> rw [heq]
  · exact .inr (State.meetsRuleOf_sampledErr hc hpath he)
  · exact hact he hfire
  · exact .inl rfl

/-- A length byte that the command does not accept is PROTOCOL (R131, R273). -/
theorem State.keepsOrSetsByRule_takeLength (hl : s.legal = true) (hk : s.ctrl = .rxLen) (he : s.now.chErr = false)
    (hvalid : s.now.rxValid = true) : s.KeepsOrSetsByRule (s.takeLength c) := by
  rw [State.KeepsOrSetsByRule, State.takeLength_errCode]
  split
  next => exact .inl rfl
  next hbad =>
    obtain ⟨hany, hone, hread, hverify, -⟩ := acceptedLengthsAndPayloadCounts s s.now.rxData hl
    refine .inr (.inl ⟨hk, he, hvalid, ?_⟩)
    cases c with
    | fwver | serial => exact absurd (hany _ (by simp)) hbad
    | halt | start | cdone | erase | write => exact .inl ⟨by simp [hc], fun h => hbad ((hone _ (by simp)).mpr h)⟩
    | verify => exact .inr (.inl ⟨hc, fun h => hbad (hverify.mpr h)⟩)
    | read => exact .inr (.inr ⟨hc, fun h => hbad (hread.mpr h)⟩)

/-- A wrong marker byte is PROTOCOL, and unequal digests are MISMATCH (R222 to R225, R251, R260, R273, R274). -/
theorem State.keepsOrSetsByRule_check (hk : s.ctrl = .check) : s.KeepsOrSetsByRule (checkOf c s) := by
  cases c with
  | fwver | serial => exact .inl rfl
  | read => exact .inl s.checkRead_errCode
  | halt | start | erase =>
    simp only [checkOf, State.checkMarker_eq]
    split
    next => exact .inl rfl
    next hbad => exact .inr (.inr ⟨hk, by simpa [hc, markerHalt, markerStart, markerOk] using hbad⟩)
  | cdone =>
    simp only [checkOf, State.KeepsOrSetsByRule, State.checkCdone_errCode]
    split
    next => exact .inl rfl
    next hbad => exact .inr (.inr ⟨hk, .inr (.inr (.inl ⟨hc, hbad⟩))⟩)
  | write =>
    simp only [checkOf, State.checkWrite]
    split
    next => split <;> exact .inl rfl
    next hbad =>
      have hbyte : s.rspB0.toNat ≠ 0x4F := fun h => hbad (BitVec.eq_of_toNat_eq h)
      exact .inr (.inr ⟨hk, .inr (.inr (.inr ⟨by simp [hc], hbyte⟩))⟩)
  | verify =>
    simp only [checkOf, State.checkVerify]
    split
    next => exact .inl rfl
    next hne => exact .inr ⟨hk, hc, hne⟩

/-- A busy cycle keeps the error code or sets it by its rule, by the controller state. -/
theorem State.keepsOrSetsByRule_commandCycle (hb : s.busy = true) (hruns : s.Runs c) (count : Len)
    (begin : State → State) : s.KeepsOrSetsByRule (s.commandCycle c count begin (checkOf c)) := by
  obtain ⟨hr, hstop⟩ := hruns
  obtain ⟨hl, hpath, -⟩ := State.stop_eq_none.mp hstop
  obtain ⟨hidle, hdone⟩ := State.busy_eq_true.mp hb
  have transfer {act : State} {fire : Bool}
      (hact : s.sampledErr c = none → fire = true → s.KeepsOrSetsByRule act) :=
    State.keepsOrSetsByRule_onTransfer hc hpath hact
  unfold State.commandCycle
  split
  next hk => exact absurd hk hidle
  next hk => exact absurd hk hdone
  next => exact transfer fun _ _ => .inl (by simp)
  next => exact transfer fun _ _ => .inl (by simp)
  next => exact transfer fun _ _ => .inl (by simp)
  next => exact .inl (by simp)
  next hk =>
    refine transfer fun herr hfire => ?_
    obtain ⟨-, hvalid, -⟩ := State.rxFire_eq_true hfire
    exact State.keepsOrSetsByRule_takeLength hc hl hk (by simpa [State.sampledErr, hk] using herr) hvalid
  next => exact transfer fun _ _ => .inl (by simp)
  next hk => exact State.keepsOrSetsByRule_check hc hk
  next hk =>
    obtain rfl : c = .write := by simpa [hk, onPath] using hpath
    exact transfer fun herr hfire =>
      State.keepsOrSetsByRule_takeFill hc hk (by simpa [State.sampledErr, hk] using herr) hfire
  next => exact transfer fun _ _ => .inl (by simp)

end command

/-- A command's first move sets no error code (R154). -/
theorem beginOf_errCode (i : Instr) (s : State) : (beginOf i s).errCode = s.errCode := by
  cases i with
  | read a n =>
    simp only [beginOf, State.beginRead]
    split <;> rfl
  | fwver | halt | start | cdone | erase | serial | write | verify => rfl

/-! ## The rule of each step -/

/-- Where a step changes the error code or accepts a command, the code it leaves was set by its own rule. -/
theorem step_meetsRuleOf {s t : State} (hstep : step s = .next t) (hset : t.errCode ≠ s.errCode ∨ s.cmdFire = true) :
    s.MeetsRuleOf t.errCode := by
  rcases step_next hstep with
    ⟨-, rfl⟩ | ⟨c, hb, hc, hruns, rfl⟩ | ⟨c, -, -, -, rfl⟩ | ⟨-, -, hf, hsel, rfl⟩ | ⟨-, -, -, hquiet, rfl⟩
  · trivial
  · have hchanged := hset.resolve_right (by simp [State.cmdFire_eq_false_of_busy hb])
    exact (State.keepsOrSetsByRule_commandCycle hc hb hruns _ _).resolve_left hchanged
  · rw [State.tick_errCode, beginOf_errCode]
    trivial
  · exact ⟨hf, Command.ofSelect_eq_none.mp hsel⟩
  · simp [hquiet] at hset

/-- Settles O23: the rule of the code that the step leaves. -/
theorem errorCodesComeFromTheirRules : Obligations.ErrorCodesComeFromTheirRules := by
  intro s t hstep hset
  have of_code {e : ErrKind} (h : t.errCode = e) : s.MeetsRuleOf e := h ▸ step_meetsRuleOf hstep hset
  exact ⟨of_code, of_code, of_code, of_code, of_code, of_code⟩

end Sys2Proof.Machine
end

section
/-! PROOFS of the statements of 70_reset_and_hazards.md: the values right after reset (R300, R302), a reset edge from
any state (R300), the outputs in reset (R301), and the invariant right after reset. -/

namespace Sys2Proof.Machine

/-! ## A reset edge (R300, R301) -/

/-- In reset every step is a reset edge that moves nothing, whatever is in hand. -/
theorem step_of_reset {s : State} (hr : s.now.rst = true) : step s = .next (s.resetRegs.tick []) := by
  unfold step
  split
  next i _ => rw [exec_eq_clocked, State.clocked, if_pos hr]
  next => rw [State.idleCycle, if_pos hr]

/-- STATUS shows none of what a reset edge keeps (R49, R300). -/
theorem State.resetRegs_status (s : State) (m : List Transfer) :
    (s.resetRegs.tick m).status = State.reset.status := rfl

/-- Settles O9: a reset edge loads every register and keeps the buffer, the parameter and the trace. -/
theorem resetEdgeFromAnyState : Obligations.ResetEdgeFromAnyState := fun s hr =>
  ⟨_, step_of_reset hr, rfl, rfl, rfl, rfl, rfl, rfl, rfl, rfl, rfl, rfl, rfl, rfl, rfl, rfl, rfl, rfl, rfl, rfl, rfl,
    fun _ => rfl, List.append_nil _, rfl, rfl, s.resetRegs_status []⟩

/-! ## The state right after reset (R300, R302) -/

/-- Settles O8: the values are those `State.reset` is written with, and IDLE is ready outside reset. -/
theorem resetStateValues : Obligations.ResetStateValues :=
  ⟨rfl, rfl, rfl, rfl, rfl, rfl, rfl, rfl, rfl, rfl, rfl, rfl, rfl, rfl, rfl, rfl, rfl, rfl, rfl,
    fun n _ hr => by simp [State.cmdReady, State.now, State.busy, State.reset, hr]⟩

/-- Settles O57: the CORE is idle with no outcome recorded, the buffer empty and the settle delay at least 1. -/
theorem resetMeetsInvariant : Obligations.ResetMeetsInvariant where
  legal := rfl
  bufWf := State.reset_buf_wf
  settlePos := Nat.le_add_left 1 Config.settleSlack
  running := nofun
  errorEnds := fun e => absurd rfl e
  cdoneEnds := nofun
  verifyEnds := nofun
  carryWrite := nofun
  readChunk := nofun
  readEnds := nofun
  writeChunk := nofun
  writeData := nofun
  verifyAddr := nofun
  settling := nofun
  payload := nofun

/-! ## The outputs in reset (R301) -/

theorem State.ungated_of_reset {s : State} (hr : s.now.rst = true) (c : Command) : s.ungated c = false := by
  simp [State.ungated, hr]

theorem State.cmdReady_of_reset {s : State} (hr : s.now.rst = true) : s.cmdReady = false := by
  simp [State.cmdReady, hr]

/-- Settles O10: reset gates every handshake output and data output, and the others show registers. -/
theorem resetGatesEveryOutput : Obligations.ResetGatesEveryOutput := by
  intro s c hr
  have hgated := State.ungated_of_reset hr c
  have hready := State.cmdReady_of_reset hr
  have hsnk : s.snkRoute c = false := by simp [State.snkRoute, hr]
  have hres : s.resRoute c = false := by simp [State.resRoute, hr]
  have hquiet : s.transfers c = [] := by simp [State.transfers_gated hgated, State.cmdFire, hready]
  refine ⟨hready, ?_, ?_, ?_, ?_, ?_, ?_, ?_, ?_, hquiet, rfl, rfl, rfl, rfl, rfl, rfl, rfl, rfl, rfl, rfl, rfl, rfl⟩
  · simp [State.outputs, State.txValid, hgated]
  · simp [State.outputs, State.rxReady, hgated]
  · simp [State.outputs, State.srcReady, hgated]
  · simp [State.outputs, State.snkValid, hgated]
  · simp [State.outputs, State.resValid, hgated]
  · simp [State.outputs, State.txByte, hr]
  · simp [State.outputs, hsnk]
  · simp [State.outputs, hres]

end Sys2Proof.Machine
end
